-- ==== Sys2Proof/Word.lean ====
section
/-! DEFINITION. The word types of the block: bytes, 32-bit words (binary32 patterns and counters), and
the 16-byte frame (00_scope.md R13, R14, R16). -/

namespace Sys2Proof

/-- A byte, 8 bits, unsigned (R13). -/
abbrev Byte := BitVec 8

/-- A 32-bit word: a binary32 pattern (R16), or a counter value (R46, R47). -/
abbrev Word := BitVec 32

/-- A frame: a sequence of exactly `P_FRAME_WIDTH` = 16 bytes, byte 0 first (R14, R100). -/
structure Frame where
  bytes : List Byte
  size : bytes.length = 16
deriving DecidableEq, Repr

/-- Three binary32 components, in the order x, y, z (R44, R45). For a pose, `z` is the heading. -/
structure Vec3 where
  x : Word
  y : Word
  z : Word
deriving DecidableEq, Repr

/-- A quaternion, in the order w, x, y, z (R44, R264). -/
structure Quat where
  w : Word
  x : Word
  y : Word
  z : Word
deriving DecidableEq, Repr

/-- A linear and an angular velocity (R44, R45, R265). -/
structure Twist where
  lin : Word
  ang : Word
deriving DecidableEq, Repr

end Sys2Proof
end

