-- ==== Sys2Proof/Config.lean ====
section
/-! DEFINITION. The implementation parameters of 00_scope.md R10: the fixed ones as constants, the OPEN
ones as a record of plain data that the machine samples at reset (R12, 70_reset_and_hazards.md R361), and the
free values as opaque constants that have no body. -/

namespace Sys2Proof

namespace Config

/-! Fixed parameters (R10). -/

/-- `P_FRAME_WIDTH`. -/
def frameWidth : Nat := 16
/-- `P_SPI_HZ`. -/
def spiHz : Nat := 1000000
/-- `P_SPI_MODE`: CPOL. -/
def spiCpol : Bool := true
/-- `P_SPI_MODE`: CPHA. -/
def spiCpha : Bool := true
/-- `OP_VELOCITY`. -/
def opVelocity : Byte := 0x00
/-- `OP_SETUP`. -/
def opSetup : Byte := 0x01
/-- `OP_ACCEL`. -/
def opAccel : Byte := 0x02
/-- `OP_GYRO`. -/
def opGyro : Byte := 0x03
/-- `OP_POSITION`. -/
def opPosition : Byte := 0x04
/-- `OP_DEAD_RECKONING`. -/
def opDeadReckoning : Byte := 0x05
/-- `OP_PING`. -/
def opPing : Byte := 0xFF
/-- `PING_SENTINEL`, byte 1 of a probe. -/
def pingSentinel : Byte := 0xFF
/-- `K_G`: 9.81 as binary32. -/
def kG : Word := 0x411CF5C3
/-- `K_D2R`: pi/180 as binary32. -/
def kD2R : Word := 0x3C8EFA35

/-- The seven opcodes the source fixes (R10, R11). -/
def fixedOpcodes : List Byte :=
  [opVelocity, opSetup, opAccel, opGyro, opPosition, opDeadReckoning, opPing]

end Config

/-- `P_ACCEL_UNITS` (R10, R261). -/
inductive AccelUnits where
  | g
  | mps2
deriving DecidableEq, Repr, Inhabited

/-- The OPEN parameters of R10, as the integrator presents them to the block. The three durations are in
microseconds; only their positivity matters to the model (93_implementation_defined.md section 4). -/
structure Params where
  opAck : Byte
  opShutdown : Byte
  shutdownSentinel : Byte
  accelUnits : AccelUnits
  probeReportN : Word
  probeDelayUs : Nat
  pollPeriodUs : Nat
  xferTimeoutUs : Nat
deriving DecidableEq, Repr, Inhabited

/-- A configuration is well-formed when the nine opcodes are pairwise distinct (R11) and the durations are
positive (R10, R370). -/
def Params.wf (p : Params) : Bool :=
  !Config.fixedOpcodes.contains p.opAck
    && !Config.fixedOpcodes.contains p.opShutdown
    && p.opAck != p.opShutdown
    && decide (0 < p.probeDelayUs)
    && decide (0 < p.pollPeriodUs)
    && decide (0 < p.xferTimeoutUs)

/-- A configuration the block can hold: parameters that R11 does not refuse. -/
structure Config extends Params where
  ok : toParams.wf = true
deriving DecidableEq, Repr

/-- R11: an ill-formed set of parameters makes no configuration. -/
def Params.toConfig (p : Params) : Option Config :=
  if h : p.wf = true then some ⟨p, h⟩ else none

namespace Config

/-- FREE VALUE (log 2): the OPEN parameters the board presents at power-on. -/
opaque boardParams : Params

/-- The configuration `State.reset` holds: the board's parameters where they are well-formed. Every well-formed
configuration is a value of it, and nothing can be proved of it but that it is well-formed (log 2). -/
def board : Config :=
  if h : boardParams.wf = true then ⟨boardParams, h⟩
  else ⟨⟨0x06, 0x07, 0x00, .g, 0, 100000, 1, 1⟩, by decide⟩

/-- FREE VALUE (log 3): an arbitrary function from which `SIN32` is made (43_telemetry.md R267). -/
opaque sinRaw : Word → Word

/-- FREE VALUE (log 3): an arbitrary function from which `COS32` is made (43_telemetry.md R267). -/
opaque cosRaw : Word → Word

/-- FREE VALUE (log 4): an arbitrary function from which `NAN_OUT` is made (43_telemetry.md R268). -/
opaque nanRaw : Word → Word → Word

/-- FREE VALUE (log 12): byte `i` of the frame buffer left by failed exchange number `n` (41_transport.md R186). -/
opaque freeByte (n i : Nat) : Byte

end Config

end Sys2Proof
end

