-- ==== Sys2Proof/Machine/Errors.lean ====
section
/-! DEFINITION. The error codes (60_exceptions.md R321), the outcomes of an exchange (41_transport.md R186) and the
events of the event port (60_exceptions.md R330). -/

namespace Sys2Proof

/-- The nine codes of R321. Codes 0x9 to 0xF are never produced and have no constructor. -/
inductive ErrorCode where
  | ok
  | encodeOutOfRange
  | decodeTruncated
  | transportTimeout
  | transportIoFailure
  | linkClosed
  | cyclePreempted
  | badState
  | illegalCmd
deriving DecidableEq, Repr

/-- The 4-bit number of a code (R321). -/
def ErrorCode.code : ErrorCode → BitVec 4
  | .ok => 0x0
  | .encodeOutOfRange => 0x1
  | .decodeTruncated => 0x2
  | .transportTimeout => 0x3
  | .transportIoFailure => 0x4
  | .linkClosed => 0x5
  | .cyclePreempted => 0x6
  | .badState => 0x7
  | .illegalCmd => 0x8

/-- A transport error (41_transport.md R187, R188). -/
inductive XferError where
  | timeout
  | iofail
deriving DecidableEq, Repr, Inhabited

/-- `code(timeout)` and `code(iofail)` (R321, 42_link_session.md R234). -/
def XferError.errorCode : XferError → ErrorCode
  | .timeout => .transportTimeout
  | .iofail => .transportIoFailure

/-- The outcome of an exchange: a reply of exactly 16 bytes, or a transport error (41_transport.md R186). A short frame
is never delivered and cannot be written down (40_codec.md R154). -/
inductive XferOutcome where
  | ok (reply : Frame)
  | fail (e : XferError)
deriving DecidableEq, Repr

/-- `TelemetryRecord` (10_state.md R45), fields in that order. -/
structure TelemetryRecord where
  sequence : Word
  accel : Vec3
  gyro : Vec3
  pose : Vec3
  orient : Quat
  deadReck : Twist
deriving DecidableEq, Repr

/-- An event of the event port (R330). -/
inductive Event where
  | record (r : TelemetryRecord)
  | cycleError (seq : Word) (reason : ErrorCode)
  | xferError (op : Byte) (reason : ErrorCode)
  | probeStall (probeFails : Word)
deriving DecidableEq, Repr

/-- The 4-bit kind of an event (R330). Kinds 0x0 and 0x5 to 0xF are never produced. -/
def Event.kind : Event → BitVec 4
  | .record _ => 0x1
  | .cycleError _ _ => 0x2
  | .xferError _ _ => 0x3
  | .probeStall _ => 0x4

end Sys2Proof
end

