-- ==== Sys2Proof/Machine/Operands.lean ====
section
/-! DEFINITION. Bytes and fields of a frame, and the tests on a binary32 pattern: the one operand form of the block is
a whole big-endian 32-bit field at a constant offset (30_encoding.md R109, 40_codec.md R140, R141). -/

namespace Sys2Proof

/-- The frame whose byte `i` is `f i`, for i = 0..15. -/
def Frame.of (f : Nat → Byte) : Frame :=
  ⟨(List.range 16).map f, by simp⟩

/-- `[0x00]*16`. -/
def Frame.zero : Frame := Frame.of fun _ => 0x00

/-- The frame whose bytes are those listed, and zero in the rest (30_encoding.md R117). -/
def Frame.pad (bs : List Byte) : Frame := Frame.of fun i => bs.getD i 0x00

/-- `F[i]` (00_scope.md R14). Every use is at a constant offset below 16 (20_memory.md R75, R77). -/
def Frame.get (F : Frame) (i : Nat) : Byte := F.bytes.getD i 0x00

/-- `F[i] <- b`. -/
def Frame.put (F : Frame) (i : Nat) (b : Byte) : Frame :=
  ⟨F.bytes.set i b, by simp [F.size]⟩

/-- R140: `be32_put(F, o, v)`, most significant byte at the lowest offset (20_memory.md R72). On `TX` this is
`MemWrite(TX:o, 4, v)` of 00_scope.md R15. -/
def be32Put (F : Frame) (o : Nat) (v : Word) : Frame :=
  (((F.put o (v.extractLsb' 24 8)).put (o + 1) (v.extractLsb' 16 8)).put (o + 2) (v.extractLsb' 8 8)).put
    (o + 3) (v.extractLsb' 0 8)

/-- R140: `be32_get(F, o)`. On `RX` this is `MemRead(RX:o, 4)` of 00_scope.md R15. -/
def be32Get (F : Frame) (o : Nat) : Word :=
  F.get o ++ F.get (o + 1) ++ F.get (o + 2) ++ F.get (o + 3)

/-- The exponent field of a binary32 pattern, bits 30 to 23 (R16). -/
def expField (v : Word) : BitVec 8 := v.extractLsb' 23 8

/-- The fraction field of a binary32 pattern, bits 22 to 0 (R16). -/
def fracField (v : Word) : BitVec 23 := v.extractLsb' 0 23

/-- The sign of a binary32 pattern, bit 31 (R16). -/
def signBit (v : Word) : Bool := v.getLsbD 31

/-- R141: zeros, subnormals and normals are finite; the infinities and every NaN are not. -/
def isFinite (v : Word) : Bool := expField v != 0xFF

/-- A NaN: exponent 0xFF and a nonzero fraction (R268). -/
def isNaN (v : Word) : Bool := expField v == 0xFF && fracField v != 0

/-- An infinity of either sign. -/
def isInf (v : Word) : Bool := expField v == 0xFF && fracField v == 0

/-- A zero of either sign. -/
def isZero (v : Word) : Bool := expField v == 0 && fracField v == 0

end Sys2Proof
end

