-- ==== Sys2Proof/Machine/Codec.lean ====
section
/-! DEFINITION. The Frame Codec: pure encoders and decoders (40_codec.md). -/

namespace Sys2Proof

/-- The frame of R101: `OP_VELOCITY`, then the two patterns bit for bit, then zeros. -/
def velocityFrame (lin ang : Word) : Frame :=
  be32Put (be32Put (Frame.zero.put 0 Config.opVelocity) 1 lin) 5 ang

/-- R142: `encode_velocity`. -/
def encodeVelocity (lin ang : Word) : Except ErrorCode Frame :=
  if isFinite lin && isFinite ang then .ok (velocityFrame lin ang) else .error .encodeOutOfRange

/-- R143: `encode_poll`. -/
def encodePoll (op : Byte) : Frame := Frame.zero.put 0 op

/-- R144: `encode_probe`. -/
def encodeProbe : Frame := (Frame.zero.put 0 Config.opPing).put 1 Config.pingSentinel

/-- R145: `encode_ack`. -/
def encodeAck (c : Config) : Frame := Frame.zero.put 0 c.opAck

/-- R146: `encode_shutdown`. -/
def encodeShutdown (c : Config) : Frame :=
  (Frame.zero.put 0 c.opShutdown).put 1 c.shutdownSentinel

/-- R150: `decode_float_triplet(F, len)`. -/
def decodeFloatTriplet (F : Frame) (len : Nat) : Except ErrorCode (Word × Word × Word) :=
  if len < 13 then .error .decodeTruncated
  else .ok (be32Get F 1, be32Get F 5, be32Get F 9)

/-- R151: `decode_float_pair(F, len)`. -/
def decodeFloatPair (F : Frame) (len : Nat) : Except ErrorCode (Word × Word) :=
  if len < 9 then .error .decodeTruncated
  else .ok (be32Get F 1, be32Get F 5)

/-- `HandshakeStatus` of R152. -/
inductive HandshakeStatus where
  | confirmed
  | notReady
deriving DecidableEq, Repr

/-- R152: `decode_handshake_reply(F, len)`. -/
def decodeHandshakeReply (F : Frame) (len : Nat) : Except ErrorCode HandshakeStatus :=
  if len < 3 then .error .decodeTruncated
  else if F.get 0 = 0x00 ∧ F.get 1 = 0xFF ∧ F.get 2 = 0x00 then .ok .confirmed
  else .ok .notReady

end Sys2Proof
end

