-- ==== Sys2Proof/Syntax.lean ====
section
/-! DEFINITION. The instructions of the block, one constructor per row of opcode_table.json, and the two kinds of
word that encode them: a 16-byte frame on the bus, and a host command word (30_encoding.md). -/

namespace Sys2Proof

/-- The opcode table's rows: nine frame opcodes (30_encoding.md R113), three host commands (R111) and the three rows
of reserved host codes (R115). The arguments a host command ignores are kept, so that no bit of a word is dropped. -/
inductive Instr where
  /-- Frame 0x00, with its two binary32 operands (R101, R239). -/
  | velocity (lin ang : Word)
  /-- Frame 0x01 (R102, R240). -/
  | sensorSetup
  /-- Frame 0x02 (R102, R241). -/
  | sensorAccel
  /-- Frame 0x03 (R102, R242). -/
  | sensorGyro
  /-- Frame 0x04 (R102, R243). -/
  | sensorPosition
  /-- Frame 0x05 (R102, R244). -/
  | sensorDeadReckoning
  /-- Frame 0xFF (R103, R236). -/
  | ping
  /-- Frame `P_OP_ACK` (R104, R238). -/
  | ack
  /-- Frame `P_OP_SHUTDOWN` (R105, R301, R302). -/
  | shutdown
  /-- Host command 0x1 (R220). -/
  | start (arg0 arg1 : Word)
  /-- Host command 0x2 (R221). -/
  | setVelocity (lin ang : Word)
  /-- Host command 0x3 (R222). -/
  | terminate (arg0 arg1 : Word)
  /-- Reserved host code 0x0 (R223). -/
  | hostReservedZero (arg0 arg1 : Word)
  /-- Reserved host codes 0x4 to 0x7: `low` is the code's low 2 bits (R223). -/
  | hostReservedLow (low : BitVec 2) (arg0 arg1 : Word)
  /-- Reserved host codes 0x8 to 0xF: `low` is the code's low 3 bits (R223). -/
  | hostReservedHigh (low : BitVec 3) (arg0 arg1 : Word)
deriving DecidableEq, Repr

/-- A word of the host command port: `CMD`, `ARG0`, `ARG1` (R110). -/
structure HostWord where
  cmd : BitVec 4
  arg0 : Word
  arg1 : Word
deriving DecidableEq, Repr

/-- An encoded instruction: a frame on the bus or a word on the host command port. -/
inductive Packet where
  | frame (f : Frame)
  | host (w : HostWord)
deriving DecidableEq, Repr

end Sys2Proof
end

