-- ==== Sys2Proof/WellFormed.lean ====
section
/-! DEFINITION. Which instructions have an encoding. -/

namespace Sys2Proof

/-- A VELOCITY frame exists for finite operands only (40_codec.md R142: on the error no frame exists). Every other
field of `Instr` has exactly the values its encoding admits, by its type. -/
def Instr.WellFormed : Instr → Bool
  | .velocity lin ang => isFinite lin && isFinite ang
  | .sensorSetup => true
  | .sensorAccel => true
  | .sensorGyro => true
  | .sensorPosition => true
  | .sensorDeadReckoning => true
  | .ping => true
  | .ack => true
  | .shutdown => true
  | .start _ _ => true
  | .setVelocity _ _ => true
  | .terminate _ _ => true
  | .hostReservedZero _ _ => true
  | .hostReservedLow _ _ _ => true
  | .hostReservedHigh _ _ _ => true

end Sys2Proof
end

