-- ==== Sys2Proof/Decode.lean ====
section
/-! DEFINITION. Decoding a frame or a host command word to an instruction, total, and rejecting by name; the encoder;
and the reading of an opcode-table word (30_encoding.md R111, R113 to R115). -/

namespace Sys2Proof

/-- Why a packet is no instruction. -/
inductive DecodeError where
  /-- Byte 0 is one of the 247 reserved frame opcodes (R114). -/
  | reservedFrameOpcode (b : Byte)
deriving DecidableEq, Repr

/-- A frame is matched on byte 0 (R113, 41_transport.md R186, log 15). -/
def decodeFrame (c : Config) (F : Frame) : Except DecodeError Instr :=
  let op := F.get 0
  if op = Config.opVelocity then .ok (.velocity (be32Get F 1) (be32Get F 5))
  else if op = Config.opSetup then .ok .sensorSetup
  else if op = Config.opAccel then .ok .sensorAccel
  else if op = Config.opGyro then .ok .sensorGyro
  else if op = Config.opPosition then .ok .sensorPosition
  else if op = Config.opDeadReckoning then .ok .sensorDeadReckoning
  else if op = Config.opPing then .ok .ping
  else if op = c.opAck then .ok .ack
  else if op = c.opShutdown then .ok .shutdown
  else .error (.reservedFrameOpcode op)

/-- A host command word is matched on `CMD`; every code is some row's (R111, R115). -/
def decodeHost (w : HostWord) : Instr :=
  if w.cmd = 0x1 then .start w.arg0 w.arg1
  else if w.cmd = 0x2 then .setVelocity w.arg0 w.arg1
  else if w.cmd = 0x3 then .terminate w.arg0 w.arg1
  else if w.cmd = 0x0 then .hostReservedZero w.arg0 w.arg1
  else if w.cmd.getLsbD 3 then .hostReservedHigh (w.cmd.extractLsb' 0 3) w.arg0 w.arg1
  else .hostReservedLow (w.cmd.extractLsb' 0 2) w.arg0 w.arg1

/-- The decoder, total on both kinds of word. -/
def decode (c : Config) : Packet → Except DecodeError Instr
  | .frame F => decodeFrame c F
  | .host w => .ok (decodeHost w)

/-- The encoder: the layouts of R101 to R105 and the command codes of R111 and R115. -/
def encode (c : Config) : Instr → Packet
  | .velocity lin ang => .frame (velocityFrame lin ang)
  | .sensorSetup => .frame (encodePoll Config.opSetup)
  | .sensorAccel => .frame (encodePoll Config.opAccel)
  | .sensorGyro => .frame (encodePoll Config.opGyro)
  | .sensorPosition => .frame (encodePoll Config.opPosition)
  | .sensorDeadReckoning => .frame (encodePoll Config.opDeadReckoning)
  | .ping => .frame encodeProbe
  | .ack => .frame (encodeAck c)
  | .shutdown => .frame (encodeShutdown c)
  | .start a b => .host ⟨0x1, a, b⟩
  | .setVelocity l a => .host ⟨0x2, l, a⟩
  | .terminate a b => .host ⟨0x3, a, b⟩
  | .hostReservedZero a b => .host ⟨0x0, a, b⟩
  | .hostReservedLow k a b => .host ⟨0b01#2 ++ k, a, b⟩
  | .hostReservedHigh k a b => .host ⟨0b1#1 ++ k, a, b⟩

/-- The frame whose byte `k` is bits 8k+7 to 8k of `w`. -/
def tableFrame (w : Nat) : Frame := Frame.of fun k => BitVec.ofNat 8 (w >>> (8 * k))

/-- The host word whose `CMD` is bits 3 to 0 of `w`, `ARG0` bits 35 to 4 and `ARG1` bits 67 to 36. -/
def tableHostWord (w : Nat) : HostWord :=
  ⟨BitVec.ofNat 4 w, BitVec.ofNat 32 (w >>> 4), BitVec.ofNat 32 (w >>> 36)⟩

/-- The packet an opcode-table word stands for (log 16). The table's two formats use the same low bits, so the width
tells them apart where it can; a single byte is a frame opcode that the source fixes, else a host command code, else a
frame opcode. -/
def tablePacket (nbits w : Nat) : Packet :=
  if nbits = 4 ∨ nbits = 68 ∨ nbits = 72 then .host (tableHostWord w)
  else if nbits ≤ 8 ∧ w < 16 ∧ Config.fixedOpcodes.contains (BitVec.ofNat 8 w) = false then .host (tableHostWord w)
  else .frame (tableFrame w)

/-- The instruction the decoder reads from an opcode-table word, under the board's configuration. -/
def decodeTableWord (nbits w : Nat) : Option Instr :=
  match decode Config.board (tablePacket nbits w) with
  | .ok i => some i
  | .error _ => none

end Sys2Proof
end

