-- ==== Sys2Proof/Machine/Memory.lean ====
section
/-! DEFINITION. A frame space (20_memory.md R70): 16 bytes at addresses 0 to 15, held as a sparse list in one canonical
form. Whole frames are stored, and read back as frames (R76, R78). -/

namespace Sys2Proof.Machine

/-- A frame space: its bytes that differ from the unlisted value, addresses strictly rising. -/
abbrev Memory := List Host.Cell

/-- What an unlisted byte reads as: DESIGN CHOICE zero, unsafe (log 9); the spec leaves TX and RX unspecified at reset. -/
def Memory.unlisted : Byte := 0x00

/-- The byte at address `a`. -/
def Memory.read : Memory → Nat → Byte
  | [], _ => Memory.unlisted
  | (k, b) :: m, a => if k = a then b else Memory.read m a

/-- The cells of a run of bytes from address `k`: a byte equal to the unlisted value is not listed. -/
def Memory.ofBytes : Nat → List Byte → Memory
  | _, [] => []
  | k, b :: bs => if b = Memory.unlisted then Memory.ofBytes (k + 1) bs else (k, b) :: Memory.ofBytes (k + 1) bs

/-- Storing a whole frame replaces all 16 bytes (R78). -/
def Memory.ofFrame (F : Frame) : Memory := Memory.ofBytes 0 F.bytes

/-- The frame the space holds. -/
def Memory.toFrame (m : Memory) : Frame := Frame.of (Memory.read m)

/-- Addresses strictly rising from `k`, below 16, and no byte listed that equals the unlisted value. -/
def Memory.wfFrom : Nat → Memory → Bool
  | _, [] => true
  | k, (a, b) :: m => decide (k ≤ a) && decide (a < 16) && b != Memory.unlisted && Memory.wfFrom (a + 1) m

/-- The canonical form: equal spaces are equal lists. -/
def Memory.wf (m : Memory) : Bool := Memory.wfFrom 0 m

end Sys2Proof.Machine
end

