-- ==== Sys2Proof/Machine/Turn.lean ====
section
/-! DEFINITION. A turn: one step of one agent of 00_scope.md R19, with what an agent outside the block brings to it. -/

namespace Sys2Proof

/-- One agent's step (00_scope.md R19, notation of 30_encoding.md R117). -/
inductive Turn where
  /-- The Sequencer: `ISSUE` (42_link_session.md R230). -/
  | issue
  /-- The Host: a word on the command port (30_encoding.md R110). -/
  | host (w : HostWord)
  /-- The Transport/MCU: `DONE`, with its drawn outcome (41_transport.md R186). -/
  | complete (o : XferOutcome)
  /-- The probe-delay timer: `PDELAY` (60_exceptions.md R345). -/
  | probeDelay
  /-- The poll-period timer: `TICK` (60_exceptions.md R346). -/
  | pollTick
  /-- `RESET`, with the parameters it samples (70_reset_and_hazards.md R361). -/
  | reset (p : Params)
deriving DecidableEq, Repr, Inhabited

/-- FREE VALUE (log 5): which agent moves, and what it brings, where the list of turns says nothing. -/
opaque Config.freeTurn (n : Nat) : Turn

end Sys2Proof
end

