-- ==== Sys2Proof/Machine/State.lean ====
section
/-! DEFINITION. The state of the block (10_state.md), its fault and refusal reasons, and its value at reset
(70_reset_and_hazards.md R360). -/

namespace Sys2Proof.Machine

/-- `link_state` (R32). Encodings 5 to 7 are never written and have no constructor (log 17). -/
inductive LinkState where
  | uninitialized
  | handshaking
  | ready
  | shuttingDown
  | closed
deriving DecidableEq, Repr

/-- `cycle_step` (R42), in the fixed cycle order. Values 5 to 7 are never written and have no constructor (log 17). -/
inductive CycleStep where
  | setup
  | accel
  | gyro
  | position
  | deadReckoning
deriving DecidableEq, Repr

/-- The state of the block. -/
structure State where
  /-- The parameters sampled at the last reset (00_scope.md R10 to R12, log 1). Only a reset writes it. -/
  cfg : Config
  /-- R32. -/
  linkState : LinkState
  /-- R33. -/
  busOpen : Bool
  /-- R34. -/
  busy : Bool
  /-- R35. -/
  ackPending : Bool
  /-- R36. -/
  probeWait : Bool
  /-- R37. -/
  termPending : Bool
  /-- R38: 0, 1 or 2. -/
  shutdownCount : Fin 3
  /-- R39. -/
  slotValid : Bool
  /-- R39. -/
  slotLin : Word
  /-- R39. -/
  slotAng : Word
  /-- R40. -/
  pollDue : Bool
  /-- R41. -/
  cycleActive : Bool
  /-- R42. -/
  cycleStep : CycleStep
  /-- R43, 20_memory.md R70: the frame being sent. -/
  tx : Memory
  /-- R43, 20_memory.md R70: the frame received. -/
  rx : Memory
  /-- R44: `acc_accel[0..2]`. -/
  accAccel : Vec3
  /-- R44: `acc_gyro[0..2]`. -/
  accGyro : Vec3
  /-- R44: `acc_pose[0..2]`. -/
  accPose : Vec3
  /-- R44: `acc_orient[0..3]`. -/
  accOrient : Quat
  /-- R44: `acc_dr[0..1]`. -/
  accDr : Twist
  /-- R46. -/
  seq : Word
  /-- R47. -/
  probeFails : Word
  /-- Every event emitted, oldest first (60_exceptions.md R330, log 14). -/
  events : List Event
  /-- Every host response returned, oldest first (30_encoding.md R110, log 14). -/
  responses : List ErrorCode
  /-- The model's own: the drawn outcome of the completion being run (41_transport.md R186, log 6). -/
  outcome : XferOutcome
  /-- The model's own: the agents' next turns, the next one first (00_scope.md R19, log 5). -/
  turns : List Turn
  /-- The model's own: how many free values have been drawn (log 5, log 12). -/
  draws : Nat
deriving DecidableEq, Repr

/-- Why the machine stops with a fault. No step from a state that meets the invariant of Safety.lean faults. -/
inductive Fault where
  /-- Raised by a frame's meaning at a frame boundary where the Sequencer does not select that frame: no issue step is
  enabled there (42_link_session.md R230, log 7). Safe. -/
  | issueNotEnabled
  /-- Raised by a frame's meaning while another frame is in flight: no completion of it is enabled (41_transport.md R186,
  log 7). Safe. -/
  | completionNotEnabled
  /-- Raised by VELOCITY's issue where the slot holds a non-finite value: no frame exists for it (40_codec.md R142), and no
  run reaches such a state (42_link_session.md R221, log 13). Safe. -/
  | slotNotFinite
deriving DecidableEq, Repr

/-- Why the machine refuses to go on. -/
inductive Refusal where
  /-- Raised by exec for an instruction that has no meaning yet: none. Safe. -/
  | notModelled (mnemonic : String)
  /-- Raised by a completion where byte 0 of the frame in flight is a reserved opcode: the block never sends one
  (30_encoding.md R114; 93_implementation_defined.md section 2). Safe. -/
  | reservedFrameOpcode (b : Byte)
  /-- Raised by a reset with ill-formed parameters (00_scope.md R11, log 20). Safe. -/
  | illFormedConfig
deriving DecidableEq, Repr

/-- What one step answers. -/
abbrev Result := Host.Outcome State Fault Refusal

/-- R360: the machine right after reset. The elements R360 leaves unspecified hold zero (DESIGN CHOICE, log 9, 10, 11); the
configuration is the board's (log 2); the histories and the model's own fields are empty (log 5, 6, 14). -/
def State.reset : State where
  cfg := Config.board
  linkState := .uninitialized
  busOpen := false
  busy := false
  ackPending := false
  probeWait := false
  termPending := false
  shutdownCount := 0
  slotValid := false
  slotLin := 0
  slotAng := 0
  pollDue := false
  cycleActive := false
  cycleStep := .setup
  tx := []
  rx := []
  accAccel := ⟨0, 0, 0⟩
  accGyro := ⟨0, 0, 0⟩
  accPose := ⟨0, 0, 0⟩
  accOrient := ⟨0, 0, 0, 0⟩
  accDr := ⟨0, 0⟩
  seq := 0
  probeFails := 0
  events := []
  responses := []
  outcome := .fail .timeout
  turns := []
  draws := 0

end Sys2Proof.Machine
end

