-- ==== Sys2Proof/Machine/Select.lean ====
section
/-! DEFINITION. The Sequencer's choice at a frame boundary, and the frame in flight (42_link_session.md R230, R231; 10_state.md
R43). -/

namespace Sys2Proof.Machine

/-- What `select` may answer, but for none (R231). -/
inductive Action where
  | preempt
  | shutdown
  | ping
  | ack
  | sensor (k : CycleStep)
  | velocity
  | startCycle
deriving DecidableEq, Repr

/-- R231: the first clause that holds wins. -/
def select (s : State) : Option Action :=
  if (s.linkState = .handshaking ∨ s.linkState = .ready) ∧ s.termPending then some .preempt
  else if s.linkState = .shuttingDown ∧ s.shutdownCount < 2 then some .shutdown
  else if s.linkState = .handshaking ∧ !s.probeWait then some .ping
  else if s.linkState = .ready ∧ s.ackPending then some .ack
  else if s.linkState = .ready ∧ s.cycleActive then some (.sensor s.cycleStep)
  else if s.linkState = .ready ∧ s.slotValid then some .velocity
  else if s.linkState = .ready ∧ s.pollDue then some .startCycle
  else none

/-- The poll frame of a cycle step (10_state.md R42). -/
def CycleStep.instr : CycleStep → Instr
  | .setup => .sensorSetup
  | .accel => .sensorAccel
  | .gyro => .sensorGyro
  | .position => .sensorPosition
  | .deadReckoning => .sensorDeadReckoning

/-- The frame an action ends by sending: PREEMPT sends SHUTDOWN (R232), START_CYCLE sends SENSOR_SETUP (R233), VELOCITY carries
the slot (R239). -/
def Action.instr (s : State) : Action → Instr
  | .preempt => .shutdown
  | .shutdown => .shutdown
  | .ping => .ping
  | .ack => .ack
  | .sensor k => k.instr
  | .velocity => .velocity s.slotLin s.slotAng
  | .startCycle => .sensorSetup

/-- The frame the Sequencer's issue step would send, where one is enabled (R230). -/
def selectedFrame (s : State) : Option Instr :=
  if !s.busy && s.busOpen then (select s).map (Action.instr s) else none

/-- What `TX` holds, read as an instruction: while `busy = 1`, the frame in flight (10_state.md R43; 41_transport.md R186). -/
def txInstr (s : State) : Except DecodeError Instr := decodeFrame s.cfg s.tx.toFrame

end Sys2Proof.Machine
end

