-- ==== Sys2Proof/Machine/Float.lean ====
section
/-! DEFINITION. The arithmetic of the Telemetry Decoder: binary32 multiplication, and the configuration functions
`SIN32`, `COS32` and `NAN_OUT` (43_telemetry.md R260, R267, R268). -/

namespace Sys2Proof

/-- A NaN made of any pattern: the pattern itself where it is one. Every NaN is a value of it (log 4). -/
def toNaN (v : Word) : Word := if isNaN v then v else 0x7FC00000

/-- `NAN_OUT(a, b)`: some NaN, the same for the same operands (R268, log 4). -/
def nanOut (a b : Word) : Word := toNaN (Config.nanRaw a b)

/-- A finite value of magnitude at most 1.0 made of any pattern: the pattern itself where it is one (log 3). -/
def toUnit (v : Word) : Word := if v.extractLsb' 0 31 ≤ 0x3F800000 then v else 0x00000000

/-- `SIN32`: R267 (P1) on the zeros, (P2) on a non-finite argument, (P3) on any other; (P4) it is a function (log 3). -/
def sin32 (v : Word) : Word :=
  if isZero v then v
  else if isFinite v then toUnit (Config.sinRaw v)
  else toNaN (Config.sinRaw v)

/-- `COS32`: R267 (P1) on the zeros, (P2) on a non-finite argument, (P3) on any other; (P4) it is a function (log 3). -/
def cos32 (v : Word) : Word :=
  if isZero v then 0x3F800000
  else if isFinite v then toUnit (Config.cosRaw v)
  else toNaN (Config.cosRaw v)

/-- The magnitude of a finite pattern as an exact integer, in units of 2^-149: the fraction with its hidden bit (none for a
subnormal), shifted by the exponent less one. -/
def magnitude (v : Word) : Nat :=
  if expField v = 0 then (fracField v).toNat
  else (2 ^ 23 + (fracField v).toNat) <<< ((expField v).toNat - 1)

/-- `n / d` rounded to the nearest integer, ties to even. -/
def divRoundEven (n d : Nat) : Nat :=
  if 2 * (n % d) < d ∨ (2 * (n % d) = d ∧ n / d % 2 = 0) then n / d else n / d + 1

/-- A sign over 31 bits of exponent and fraction. -/
def withSign (neg : Bool) (v : BitVec 31) : Word := BitVec.ofBool neg ++ v

/-- The exponent field, at least 1, under which a magnitude of `n` units of 2^-298 has 24 significant bits, or fewer where it is
subnormal. -/
def roundExponent (n : Nat) : Nat := max 1 (Nat.log2 n - 171)

/-- The binary32 pattern nearest to a magnitude of `n` units of 2^-298, ties to even: exponent and fraction are one number, so
that a carry out of the fraction raises the exponent; what does not fit is infinity (R260). -/
def roundMagnitude (n : Nat) : BitVec 31 :=
  let q := roundExponent n
  BitVec.ofNat 31 (min 0x7F800000 (((q - 1) <<< 23) + divRoundEven n (1 <<< (148 + q))))

/-- R260: `fmul32(a, b)`, roundTiesToEven, subnormals kept. -/
def fmul32 (a b : Word) : Word :=
  if isNaN a || isNaN b || (isInf a && isZero b) || (isZero a && isInf b) then nanOut a b
  else if isInf a || isInf b then withSign (signBit a ^^ signBit b) 0x7F800000
  else withSign (signBit a ^^ signBit b) (roundMagnitude (magnitude a * magnitude b))

end Sys2Proof
end

