-- ==== Sys2Proof/Machine/Telemetry.lean ====
section
/-! DEFINITION. The Telemetry Decoder's pure conversions (43_telemetry.md R261 to R266). No field is checked for finiteness
(R266). -/

namespace Sys2Proof

/-- R261: `conv_accel`. -/
def convAccel (u : AccelUnits) (r0 r1 r2 : Word) : Vec3 :=
  match u with
  | .g => ⟨fmul32 r0 Config.kG, fmul32 r1 Config.kG, fmul32 r2 Config.kG⟩
  | .mps2 => ⟨r0, r1, r2⟩

/-- R262: `conv_gyro`. -/
def convGyro (r0 r1 r2 : Word) : Vec3 :=
  ⟨fmul32 r0 Config.kD2R, fmul32 r1 Config.kD2R, fmul32 r2 Config.kD2R⟩

/-- R264: `compose_orient(h)`. -/
def composeOrient (h : Word) : Quat :=
  let half := fmul32 h 0x3F000000
  ⟨cos32 half, 0x00000000, 0x00000000, sin32 half⟩

/-- R263: `conv_pose`. -/
def convPose (px py hd : Word) : Vec3 × Quat :=
  let h := fmul32 hd Config.kD2R
  (⟨px, py, h⟩, composeOrient h)

end Sys2Proof
end

