-- ==== Sys2Proof/Machine/Ops.lean ====
section
/-! DEFINITION. The operations the meanings share: reporting on the two ports, the issue and completion of an exchange, the end of
a poll cycle, the shutdown's entry and release. The block has no trap and no handler (60_exceptions.md R332, R333): an error is
reported by `respond` or `emit` in the step that detects it. -/

namespace Sys2Proof.Machine

/-- `RESP <- r`: the one response of a host command (30_encoding.md R110, R112). -/
def respond (r : ErrorCode) (s : State) : State := { s with responses := s.responses ++ [r] }

/-- `emit e` (60_exceptions.md R330). -/
def emit (e : Event) (s : State) : State := { s with events := s.events ++ [e] }

/-- The last act of every issue: all 16 bytes of `TX` are written and `busy <- 1` (42_link_session.md R230). -/
def sendFrame (F : Frame) (s : State) : State := { s with tx := Memory.ofFrame F, busy := true }

/-- The frame a failed exchange leaves in `RX`: unspecified, so a free value (41_transport.md R186, log 12). -/
def freeFrame (n : Nat) : Frame := Frame.of (Config.freeByte n)

/-- 41_transport.md R186, up to the dispatch: `RX` takes the reply, or is unspecified after an error; `busy <- 0`. -/
def deliver (s : State) : State :=
  { s with
    rx := Memory.ofFrame (match s.outcome with | .ok R => R | .fail _ => freeFrame s.draws)
    busy := false
    draws := match s.outcome with | .ok _ => s.draws | .fail _ => s.draws + 1 }

/-- 43_telemetry.md R275. -/
def seqAdvance (s : State) : State := { s with seq := s.seq + 1 }

/-- `cycle_active <- 0; cycle_step <- 0` (43_telemetry.md R273, R274). -/
def closeCycle (s : State) : State := { s with cycleActive := false, cycleStep := .setup }

/-- The record of the cycle that ends (43_telemetry.md R273; 10_state.md R45). -/
def recordOf (s : State) : TelemetryRecord where
  sequence := s.seq
  accel := s.accAccel
  gyro := s.accGyro
  pose := s.accPose
  orient := s.accOrient
  deadReck := s.accDr

/-- 43_telemetry.md R273. -/
def finishCycleOk (s : State) : State := closeCycle (seqAdvance (emit (.record (recordOf s)) s))

/-- 43_telemetry.md R274. The accumulator keeps its contents (log 19). -/
def finishCycleFailed (reason : ErrorCode) (s : State) : State :=
  closeCycle (seqAdvance (emit (.cycleError s.seq reason) s))

/-- 42_link_session.md R234. -/
def sensorFail (op : Byte) (e : XferError) (s : State) : State :=
  finishCycleFailed e.errorCode (emit (.xferError op e.errorCode) s)

/-- The transport errors of ACK, VELOCITY and SHUTDOWN are surfaced and change nothing else (60_exceptions.md R324). -/
def surfaceError (op : Byte) (s : State) : State :=
  { s with
    events := match s.outcome with
      | .ok _ => s.events
      | .fail e => s.events ++ [.xferError op e.errorCode] }

/-- 42_link_session.md R237. -/
def reportProbeStall (s : State) : State :=
  { s with
    events :=
      if s.cfg.probeReportN ≠ 0 ∧ s.probeFails.umod s.cfg.probeReportN = 0 then
        s.events ++ [.probeStall s.probeFails]
      else s.events }

/-- 42_link_session.md R233, up to `perform SENSOR(0)`. -/
def startCycle (s : State) : State := { s with pollDue := false, cycleActive := true, cycleStep := .setup }

/-- 42_link_session.md R232, up to `perform SHUTDOWN`. -/
def preempt (s : State) : State :=
  { if s.cycleActive then finishCycleFailed .cyclePreempted s else s with
    termPending := false
    ackPending := false
    slotValid := false
    pollDue := false
    probeWait := false
    shutdownCount := 0
    linkState := .shuttingDown }

/-- `shutdown_count + 1`, for a count below 2 (10_state.md R38: the value 3 is never written; log 17). -/
def nextShutdownCount (n : Fin 3) : Fin 3 := if n = 0 then 1 else 2

/-- 44_shutdown.md R301. -/
def sendShutdown (s : State) : State :=
  sendFrame (encodeShutdown s.cfg) { s with shutdownCount := nextShutdownCount s.shutdownCount }

/-- 44_shutdown.md R303. -/
def release (s : State) : State := { s with busOpen := false, linkState := .closed }

/-- The meaning of a frame opcode (42_link_session.md section 4, log 7). At a frame boundary it is the Sequencer's issue step
that sends the frame, enabled where the Sequencer selects it (R230); while the frame is in flight it is the Transport's
completion step, one atomic step of transfer and completion rule (41_transport.md R186). -/
def exchange (i : Instr) (issue : State → Result) (complete : State → State) (s : State) : Result :=
  if s.busy then
    if txInstr s = .ok i then .next (complete (deliver s)) else .fault .completionNotEnabled
  else if selectedFrame s = some i then issue s
  else .fault .issueNotEnabled

end Sys2Proof.Machine
end

