-- ==== Sys2Proof/Machine/Handshake.lean ====
section
/-! DEFINITION. The bring-up frames PING and ACK (42_link_session.md R236 to R238). -/

namespace Sys2Proof.Machine

/-- The completion of a probe (R236), after `deliver`. -/
def completePing (s : State) : State :=
  match s.outcome with
  | .ok _ =>
    match decodeHandshakeReply s.rx.toFrame 16 with
    | .ok .confirmed => { s with linkState := .ready, ackPending := true }
    | .ok .notReady => probeFailed s
    | .error _ => probeFailed s
  | .fail _ => probeFailed s
where
  /-- An unsuccessful probe: counted, reported by R237, and retried after the delay. -/
  probeFailed (s : State) : State :=
    { reportProbeStall { s with probeFails := s.probeFails + 1 } with probeWait := true }

/-- PING (R236). -/
def execPing (s : State) : Result :=
  exchange .ping (fun s => .next (sendFrame encodeProbe s)) completePing s

/-- The completion of the ACK (R238), after `deliver`. -/
def completeAck (s : State) : State := surfaceError s.cfg.opAck { s with ackPending := false }

/-- ACK (R238). -/
def execAck (s : State) : Result :=
  exchange .ack (fun s => .next (sendFrame (encodeAck s.cfg) s)) completeAck s

end Sys2Proof.Machine
end

