-- ==== Sys2Proof/Machine/HostPort.lean ====
section
/-! DEFINITION. The host commands (42_link_session.md R220 to R223). Each is one atomic step and returns one response; none touches
`TX`, `RX` or `busy` (20_memory.md R81). -/

namespace Sys2Proof.Machine

/-- START (R220). -/
def execStart (_arg0 _arg1 : Word) (s : State) : Result :=
  match s.linkState with
  | .uninitialized =>
    .next (respond .ok { s with busOpen := true, probeWait := false, linkState := .handshaking })
  | .closed => .next (respond .linkClosed s)
  | .handshaking => .next (respond .badState s)
  | .ready => .next (respond .badState s)
  | .shuttingDown => .next (respond .badState s)

/-- SET_VELOCITY (R221): the state checks come before the finiteness check (60_exceptions.md R340). -/
def execSetVelocity (lin ang : Word) (s : State) : Result :=
  if s.linkState = .shuttingDown ∨ s.linkState = .closed ∨ s.termPending then .next (respond .linkClosed s)
  else
    match encodeVelocity lin ang with
    | .error e => .next (respond e s)
    | .ok _ => .next (respond .ok { s with slotLin := lin, slotAng := ang, slotValid := true })

/-- TERMINATE (R222). -/
def execTerminate (_arg0 _arg1 : Word) (s : State) : Result :=
  match s.linkState with
  | .uninitialized => .next (respond .ok { s with slotValid := false, linkState := .closed })
  | .handshaking => .next (respond .ok { s with termPending := true })
  | .ready => .next (respond .ok { s with termPending := true })
  | .shuttingDown => .next (respond .ok s)
  | .closed => .next (respond .linkClosed s)

/-- Reserved host code 0x0 (R223). -/
def execHostReservedZero (_arg0 _arg1 : Word) (s : State) : Result := .next (respond .illegalCmd s)

/-- Reserved host codes 0x4 to 0x7 (R223). -/
def execHostReservedLow (_low : BitVec 2) (_arg0 _arg1 : Word) (s : State) : Result :=
  .next (respond .illegalCmd s)

/-- Reserved host codes 0x8 to 0xF (R223). -/
def execHostReservedHigh (_low : BitVec 3) (_arg0 _arg1 : Word) (s : State) : Result :=
  .next (respond .illegalCmd s)

end Sys2Proof.Machine
end

