-- ==== Sys2Proof/Machine/Motion.lean ====
section
/-! DEFINITION. The VELOCITY frame (42_link_session.md R239). -/

namespace Sys2Proof.Machine

/-- The issue of VELOCITY: the slot is encoded and cleared in one step (R239, 20_memory.md R83). -/
def issueVelocity (lin ang : Word) (s : State) : Result :=
  match encodeVelocity lin ang with
  | .ok F => .next (sendFrame F { s with slotValid := false })
  | .error _ => .fault .slotNotFinite

/-- VELOCITY (R239): the reply is discarded, the command is not re-sent. -/
def execVelocity (lin ang : Word) (s : State) : Result :=
  exchange (.velocity lin ang) (issueVelocity lin ang) (surfaceError Config.opVelocity) s

end Sys2Proof.Machine
end

