-- ==== Sys2Proof/Machine/Poll.lean ====
section
/-! DEFINITION. The five frames of a poll cycle (42_link_session.md R240 to R244). -/

namespace Sys2Proof.Machine

/-- The issue of a poll frame (selection clause 5). -/
def issuePoll (op : Byte) (s : State) : Result := .next (sendFrame (encodePoll op) s)

/-- The issue of SENSOR_SETUP, which also starts the cycle where the Sequencer's choice is START_CYCLE (R233, R240). -/
def issueSetup (s : State) : Result :=
  issuePoll Config.opSetup (if select s = some .startCycle then startCycle s else s)

/-- The completion of SENSOR_SETUP (R240): its reply is not decoded. -/
def completeSetup (s : State) : State :=
  match s.outcome with
  | .ok _ => { s with cycleStep := .accel }
  | .fail e => sensorFail Config.opSetup e s

/-- The completion of SENSOR_ACCEL (R241). -/
def completeAccel (s : State) : State :=
  match s.outcome with
  | .ok _ =>
    match decodeFloatTriplet s.rx.toFrame 16 with
    | .error e => finishCycleFailed e s
    | .ok (r0, r1, r2) => { s with accAccel := convAccel s.cfg.accelUnits r0 r1 r2, cycleStep := .gyro }
  | .fail e => sensorFail Config.opAccel e s

/-- The completion of SENSOR_GYRO (R242). -/
def completeGyro (s : State) : State :=
  match s.outcome with
  | .ok _ =>
    match decodeFloatTriplet s.rx.toFrame 16 with
    | .error e => finishCycleFailed e s
    | .ok (r0, r1, r2) => { s with accGyro := convGyro r0 r1 r2, cycleStep := .position }
  | .fail e => sensorFail Config.opGyro e s

/-- The completion of SENSOR_POSITION (R243). -/
def completePosition (s : State) : State :=
  match s.outcome with
  | .ok _ =>
    match decodeFloatTriplet s.rx.toFrame 16 with
    | .error e => finishCycleFailed e s
    | .ok (px, py, hd) =>
      { s with accPose := (convPose px py hd).1, accOrient := (convPose px py hd).2, cycleStep := .deadReckoning }
  | .fail e => sensorFail Config.opPosition e s

/-- The completion of SENSOR_DEAD_RECKONING (R244): the fields are stored unchanged (43_telemetry.md R265) and the cycle's record
is emitted. -/
def completeDeadReckoning (s : State) : State :=
  match s.outcome with
  | .ok _ =>
    match decodeFloatPair s.rx.toFrame 16 with
    | .error e => finishCycleFailed e s
    | .ok (dl, da) => finishCycleOk { s with accDr := ⟨dl, da⟩ }
  | .fail e => sensorFail Config.opDeadReckoning e s

/-- SENSOR_SETUP (R240). -/
def execSensorSetup (s : State) : Result := exchange .sensorSetup issueSetup completeSetup s

/-- SENSOR_ACCEL (R241). -/
def execSensorAccel (s : State) : Result := exchange .sensorAccel (issuePoll Config.opAccel) completeAccel s

/-- SENSOR_GYRO (R242). -/
def execSensorGyro (s : State) : Result := exchange .sensorGyro (issuePoll Config.opGyro) completeGyro s

/-- SENSOR_POSITION (R243). -/
def execSensorPosition (s : State) : Result :=
  exchange .sensorPosition (issuePoll Config.opPosition) completePosition s

/-- SENSOR_DEAD_RECKONING (R244). -/
def execSensorDeadReckoning (s : State) : Result :=
  exchange .sensorDeadReckoning (issuePoll Config.opDeadReckoning) completeDeadReckoning s

end Sys2Proof.Machine
end

