-- ==== Sys2Proof/Machine/Shutdown.lean ====
section
/-! DEFINITION. The SHUTDOWN frame (44_shutdown.md R301 to R303). -/

namespace Sys2Proof.Machine

/-- The issue of SHUTDOWN, which also takes the termination where the Sequencer's choice is PREEMPT (42_link_session.md R232;
R301). -/
def issueShutdown (s : State) : Result :=
  .next (sendShutdown (if select s = some .preempt then preempt s else s))

/-- The completion of SHUTDOWN (R302): the second one releases the bus whatever its outcome. -/
def completeShutdown (s : State) : State :=
  if s.shutdownCount = 2 then release (surfaceError s.cfg.opShutdown s) else surfaceError s.cfg.opShutdown s

/-- SHUTDOWN (R301, R302). -/
def execShutdown (s : State) : Result := exchange .shutdown issueShutdown completeShutdown s

end Sys2Proof.Machine
end

