-- ==== Sys2Proof/Machine/Dispatch.lean ====
section
/-! DEFINITION. The meaning of every instruction, one arm per constructor. -/

namespace Sys2Proof.Machine

def exec (i : Instr) (s : State) : Host.Outcome State Fault Refusal :=
  match i with
  | .velocity lin ang => Sys2Proof.Machine.execVelocity lin ang s
  | .sensorSetup => Sys2Proof.Machine.execSensorSetup s
  | .sensorAccel => Sys2Proof.Machine.execSensorAccel s
  | .sensorGyro => Sys2Proof.Machine.execSensorGyro s
  | .sensorPosition => Sys2Proof.Machine.execSensorPosition s
  | .sensorDeadReckoning => Sys2Proof.Machine.execSensorDeadReckoning s
  | .ping => Sys2Proof.Machine.execPing s
  | .ack => Sys2Proof.Machine.execAck s
  | .shutdown => Sys2Proof.Machine.execShutdown s
  | .start arg0 arg1 => Sys2Proof.Machine.execStart arg0 arg1 s
  | .setVelocity lin ang => Sys2Proof.Machine.execSetVelocity lin ang s
  | .terminate arg0 arg1 => Sys2Proof.Machine.execTerminate arg0 arg1 s
  | .hostReservedZero arg0 arg1 => Sys2Proof.Machine.execHostReservedZero arg0 arg1 s
  | .hostReservedLow low arg0 arg1 => Sys2Proof.Machine.execHostReservedLow low arg0 arg1 s
  | .hostReservedHigh low arg0 arg1 => Sys2Proof.Machine.execHostReservedHigh low arg0 arg1 s

end Sys2Proof.Machine
end

