-- ==== Sys2Proof/Machine/Agents.lean ====
section
/-! DEFINITION. The steps of the agents (00_scope.md R19): what each turn does, the timers and the reset, and where a program's
next instruction is placed. -/

namespace Sys2Proof.Machine

/-- The probe-delay timer (60_exceptions.md R345). With `probe_wait` already 0 it does nothing. -/
def probeDelayFires (s : State) : State := { s with probeWait := false }

/-- The poll-period timer (60_exceptions.md R346). A tick that finds `poll_due = 1` is absorbed. -/
def pollTimerFires (s : State) : State := { s with pollDue := if s.linkState = .ready then true else s.pollDue }

/-- RESET (70_reset_and_hazards.md R360 to R362): every element at its reset value, the parameters sampled, the exchange in flight
aborted without a completion. The histories are outside the block and stay (R361); the model's own fields stay (log 14). -/
def resetWith (c : Config) (s : State) : State :=
  { State.reset with
    cfg := c
    events := s.events
    responses := s.responses
    outcome := s.outcome
    turns := s.turns
    draws := s.draws }

/-- The RESET step; the model refuses an ill-formed configuration (00_scope.md R11). -/
def runReset (p : Params) (s : State) : Result :=
  match p.toConfig with
  | some c => .next (resetWith c s)
  | none => .refused .illFormedConfig

/-- The Sequencer's issue step (42_link_session.md R230). Where none is enabled the turn passes (log 8). -/
def runIssue (s : State) : Result :=
  match selectedFrame s with
  | some i => exec i s
  | none => .next s

/-- The Transport's completion step (41_transport.md R186). Where no exchange is in flight the turn passes (log 8). -/
def runComplete (o : XferOutcome) (s : State) : Result :=
  if s.busy then
    match txInstr s with
    | .ok i => exec i { s with outcome := o }
    | .error (.reservedFrameOpcode b) => .refused (.reservedFrameOpcode b)
  else .next s

/-- One turn. -/
def runTurn (t : Turn) (s : State) : Result :=
  match t with
  | .issue => runIssue s
  | .host w => exec (decodeHost w) s
  | .complete o => runComplete o s
  | .probeDelay => .next (probeDelayFires s)
  | .pollTick => .next (pollTimerFires s)
  | .reset p => runReset p s

/-- The next turn: the first listed one, or a free one where none is listed (log 5). -/
def nextTurn (s : State) : Turn :=
  match s.turns with
  | t :: _ => t
  | [] => Config.freeTurn s.draws

/-- The state once the next turn is taken off the list, or drawn. -/
def takeTurn (s : State) : State :=
  match s.turns with
  | _ :: ts => { s with turns := ts }
  | [] => { s with draws := s.draws + 1 }

/-- The state in which the Sequencer's very next turn issues the frame `i`: a frame boundary with the bus open and the conditions
of the selection clause that sends it (42_link_session.md R231, log 16). -/
def atIssueOf (i : Instr) (s : State) : State :=
  let s := { s with busy := false, busOpen := true, termPending := false, turns := .issue :: s.turns }
  match i with
  | .ping => { s with linkState := .handshaking, probeWait := false }
  | .ack => { s with linkState := .ready, ackPending := true }
  | .velocity lin ang =>
    { s with linkState := .ready, ackPending := false, cycleActive := false, slotValid := true, slotLin := lin, slotAng := ang }
  | .sensorSetup =>
    { s with linkState := .ready, ackPending := false, cycleActive := false, slotValid := false, pollDue := true }
  | .sensorAccel => { s with linkState := .ready, ackPending := false, cycleActive := true, cycleStep := .accel }
  | .sensorGyro => { s with linkState := .ready, ackPending := false, cycleActive := true, cycleStep := .gyro }
  | .sensorPosition => { s with linkState := .ready, ackPending := false, cycleActive := true, cycleStep := .position }
  | .sensorDeadReckoning =>
    { s with linkState := .ready, ackPending := false, cycleActive := true, cycleStep := .deadReckoning }
  | .shutdown => { s with linkState := .ready, termPending := true }
  | .start _ _ => s
  | .setVelocity _ _ => s
  | .terminate _ _ => s
  | .hostReservedZero _ _ => s
  | .hostReservedLow _ _ _ => s
  | .hostReservedHigh _ _ _ => s

/-- The state whose very next step runs the packet's instruction (log 16). A host word is the next host turn; a frame opcode is at
its issue; a reserved frame opcode is put in flight, so that the step refuses it by name. -/
def placePacket (p : Packet) (s : State) : State :=
  match p with
  | .host w => { s with turns := .host w :: s.turns }
  | .frame F =>
    match decodeFrame s.cfg F with
    | .ok i => atIssueOf i s
    | .error _ => { s with tx := Memory.ofFrame F, busy := true, busOpen := true, turns := .complete (.fail .timeout) :: s.turns }

end Sys2Proof.Machine
end

