-- ==== Sys2Proof/Machine/Runs.lean ====
section
/-! DEFINITION. Runs of the machine, and the weak fairness the spec asks of them: of the completion step (41_transport.md R187) and of
the probe-delay timer (60_exceptions.md R345). No time is kept (70_reset_and_hazards.md R375). -/

namespace Sys2Proof.Machine

/-- One step of a run. Between steps the agents outside the block may list their next turns anew (00_scope.md R19, log 5), so the
lists of a run say nothing of each other. -/
def Leads (s t : State) : Prop := ∃ v, step s = .next v ∧ t = { v with turns := t.turns }

/-- An infinite run, state by state. -/
def IsRun (r : Nat → State) : Prop := ∀ n, Leads (r n) (r (n + 1))

/-- Weak fairness: a kind of step that stays enabled from some state on is taken from some later state. -/
def WeaklyFair (enabled taken : State → Prop) (r : Nat → State) : Prop :=
  ∀ n, (∀ m, n ≤ m → enabled (r m)) → ∃ m, n ≤ m ∧ taken (r m)

/-- R186: a completion is enabled. -/
def completionEnabled (s : State) : Prop := s.busy = true

/-- The next step is a completion, with any outcome. -/
def completionTaken (s : State) : Prop := ∃ o, nextTurn s = .complete o

/-- R345: the probe-delay timer is enabled. -/
def probeDelayEnabled (s : State) : Prop := s.probeWait = true

/-- The next step is the probe-delay timer's. -/
def probeDelayTaken (s : State) : Prop := nextTurn s = .probeDelay

/-- The runs of the block: the completion (R187, D19) and the probe-delay timer (R345, D18) are weakly fair, and nothing else is. -/
def FairRun (r : Nat → State) : Prop :=
  IsRun r ∧ WeaklyFair completionEnabled completionTaken r ∧ WeaklyFair probeDelayEnabled probeDelayTaken r

end Sys2Proof.Machine
end

