-- ==== Sys2Proof/Machine/Wire.lean ====
section
/-! DEFINITION. The exchange on the wire (20_memory.md R73; 41_transport.md R182 to R184): the order of the bits of a frame, and
the levels of the pins over one exchange. The machine's steps move whole frames (R78, D2); this file says what such a step
is on the pins. -/

namespace Sys2Proof.Machine

/-- The bits of a byte, most significant first (R73). -/
def byteBits (b : Byte) : List Bool := (List.range 8).map fun i => b.getLsbD (7 - i)

/-- The bits of a frame in wire order: bytes in address order, each most significant bit first (R73). -/
def wireBits (F : Frame) : List Bool := F.bytes.flatMap byteBits

/-- The byte whose bits arrive in that order: each arriving bit shifts in at the bottom. -/
def bitsByte (bs : List Bool) : Byte := bs.foldl (fun acc b => acc.shiftLeft 1 ||| (BitVec.ofBool b).setWidth 8) 0

/-- The frame whose bits arrived in wire order: the byte clocked in with `TX[i]` is `RX[i]` (R184). -/
def frameOfWire (bits : List Bool) : Frame := Frame.of fun i => bitsByte ((bits.drop (8 * i)).take 8)

/-- The levels of chip select, SCLK, MOSI and MISO over half a clock period. -/
structure PinLevels where
  cs : Bool
  sclk : Bool
  mosi : Bool
  miso : Bool
deriving DecidableEq, Repr

/-- One exchange on the pins: chip select is low throughout; in SPI mode 3 each bit is driven with SCLK low, after the leading
edge, and sampled as SCLK rises (R182, R183, R184). -/
def exchangePins (sent reply : Frame) : List PinLevels :=
  ((wireBits sent).zip (wireBits reply)).flatMap fun (o, i) => [⟨false, false, o, i⟩, ⟨false, true, o, i⟩]

/-- What a device on the bus samples: the bit on its line at each rising edge of SCLK (R182). -/
def sampled (line : PinLevels → Bool) : List PinLevels → List Bool
  | [] => []
  | [_] => []
  | p :: q :: ps => if p.sclk = false ∧ q.sclk = true then line q :: sampled line (q :: ps) else sampled line (q :: ps)

end Sys2Proof.Machine
end

