-- ==== Sys2Proof/Machine/Flags.lean ====
section
/-! DEFINITION. The status word, the counter ports and the pin levels: read-only views of the state (10_state.md R32, R42, R48,
R49; 41_transport.md R183). Reading one has no side effect. -/

namespace Sys2Proof.Machine

/-- The 3-bit encoding of `link_state` (R32). -/
def LinkState.code : LinkState → BitVec 3
  | .uninitialized => 0
  | .handshaking => 1
  | .ready => 2
  | .shuttingDown => 3
  | .closed => 4

/-- The 3-bit value of `cycle_step` (R42). -/
def CycleStep.code : CycleStep → BitVec 3
  | .setup => 0
  | .accel => 1
  | .gyro => 2
  | .position => 3
  | .deadReckoning => 4

/-- The opcode of a cycle step (R42). -/
def CycleStep.opcode : CycleStep → Byte
  | .setup => Config.opSetup
  | .accel => Config.opAccel
  | .gyro => Config.opGyro
  | .position => Config.opPosition
  | .deadReckoning => Config.opDeadReckoning

/-- R48: the 32-bit status word, bit 31 first. -/
def statusWord (s : State) : BitVec 32 :=
  0#16 ++ BitVec.ofBool s.probeWait ++ BitVec.ofFin (w := 2) ⟨s.shutdownCount.val, by omega⟩
    ++ BitVec.ofBool s.termPending ++ s.cycleStep.code ++ BitVec.ofBool s.cycleActive
    ++ BitVec.ofBool s.pollDue ++ BitVec.ofBool s.slotValid ++ BitVec.ofBool s.ackPending
    ++ BitVec.ofBool s.busy ++ BitVec.ofBool s.busOpen ++ s.linkState.code

/-- R49: the `SEQ` port. -/
def seqPort (s : State) : Word := s.seq

/-- R49: the `PROBE_FAILS` port. -/
def probeFailsPort (s : State) : Word := s.probeFails

/-- The level of the active-low chip select between steps: low exactly while an exchange is in flight (41_transport.md R183,
44_shutdown.md R303, 70_reset_and_hazards.md R362, R363, D37). -/
def chipSelectLevel (s : State) : Bool := !s.busy

/-- The level of SCLK where no exchange is in flight: the CPOL idle level (D37). -/
def sclkIdleLevel : Bool := Config.spiCpol

end Sys2Proof.Machine
end

