-- ==== Sys2Proof/Safety.lean ====
section
/-! DEFINITION. What a safe run is: the invariants of 10_state.md R50, with what makes them inductive, and the outcomes that are
no stop. -/

namespace Sys2Proof.Machine

/-- A poll frame of the active cycle at step `k` is in flight (10_state.md R41, R42). -/
def pollFlight (k : CycleStep) (s : State) : Prop :=
  s.linkState = .ready ∧ s.cycleActive = true ∧ s.cycleStep = k

/-- The frame in flight belongs to the state it was issued in: what the completion rules of 42_link_session.md R236 to R244 and
44_shutdown.md R302 rely on. -/
def flightOk (s : State) : Prop :=
  match txInstr s with
  | .ok .ping => s.linkState = .handshaking ∧ s.probeWait = false
  | .ok .ack => s.linkState = .ready ∧ s.ackPending = true
  | .ok (.velocity _ _) => s.linkState = .ready ∧ s.ackPending = false ∧ s.cycleActive = false
  | .ok .sensorSetup => pollFlight .setup s
  | .ok .sensorAccel => pollFlight .accel s
  | .ok .sensorGyro => pollFlight .gyro s
  | .ok .sensorPosition => pollFlight .position s
  | .ok .sensorDeadReckoning => pollFlight .deadReckoning s
  | .ok .shutdown => s.linkState = .shuttingDown ∧ s.shutdownCount ≠ 0
  | .ok (.start _ _) => False
  | .ok (.setVelocity _ _) => False
  | .ok (.terminate _ _) => False
  | .ok (.hostReservedZero _ _) => False
  | .ok (.hostReservedLow _ _ _) => False
  | .ok (.hostReservedHigh _ _ _) => False
  | .error _ => False

/-- The invariants of the block. The first ten fields are R50's, in its order; the rest rule out states that no run reaches. -/
structure Inv (s : State) : Prop where
  busy_bus : s.busy = true → s.busOpen = true
  bus_states : s.busOpen = true ↔ s.linkState = .handshaking ∨ s.linkState = .ready ∨ s.linkState = .shuttingDown
  cycle_states : s.cycleActive = true → s.linkState = .ready ∧ s.ackPending = false
  ack_states : s.ackPending = true → s.linkState = .ready
  wait_states : s.probeWait = true → s.linkState = .handshaking
  poll_states : s.pollDue = true → s.linkState = .ready
  slot_states : s.slotValid = true →
    s.linkState = .uninitialized ∨ s.linkState = .handshaking ∨ s.linkState = .ready
  term_states : s.termPending = true → s.linkState = .handshaking ∨ s.linkState = .ready
  count_states : s.shutdownCount ≠ 0 → s.linkState = .shuttingDown ∨ s.linkState = .closed
  closed_count : s.linkState = .closed →
    s.busy = false ∧ s.busOpen = false ∧ (s.shutdownCount = 2 ∨ s.shutdownCount = 0)
  /-- The frame in flight is one of the nine, issued in this state (30_encoding.md R114). -/
  flight : s.busy = true → flightOk s
  /-- Between two SHUTDOWN exchanges exactly one has been sent (44_shutdown.md R304). -/
  shutdown_boundary : s.linkState = .shuttingDown → s.busy = false → s.shutdownCount = 1
  /-- The slot only ever holds finite values (42_link_session.md R221). -/
  slot_finite : s.slotValid = true → isFinite s.slotLin = true ∧ isFinite s.slotAng = true
  /-- The frame spaces are in canonical form. -/
  tx_wf : s.tx.wf = true
  rx_wf : s.rx.wf = true

/-- The step goes on: neither a fault nor a refusal. -/
def Continues (r : Result) : Prop := ∃ t, r = .next t

end Sys2Proof.Machine
end

