-- ==== Sys2Proof/Certificates/Slice0/Obligations.lean ====
section
/-! DEFINITION. The statements for the provers, made from the spec's numbered rules, and the few words they are written in. -/

open Sys2Proof Sys2Proof.Machine

/-! ## The words the statements use -/

/-- The nine constructors that stand for a frame opcode. -/
def Sys2Proof.Claims.isFrame : Instr → Bool
  | .velocity _ _ => true
  | .sensorSetup => true
  | .sensorAccel => true
  | .sensorGyro => true
  | .sensorPosition => true
  | .sensorDeadReckoning => true
  | .ping => true
  | .ack => true
  | .shutdown => true
  | .start _ _ => false
  | .setVelocity _ _ => false
  | .terminate _ _ => false
  | .hostReservedZero _ _ => false
  | .hostReservedLow _ _ _ => false
  | .hostReservedHigh _ _ _ => false

/-- The nine opcodes of R113, by their values. -/
def Sys2Proof.Claims.opcodes (c : Config) : List Byte :=
  [0x00, 0x01, 0x02, 0x03, 0x04, 0x05, 0xFF, c.opAck, c.opShutdown]

/-- `t` is `u` with a frame sent: `busy` is 1, every byte of TX is the listed one (zero past the list), and nothing else differs. -/
def Sys2Proof.Claims.Sends (bs : List Byte) (u t : State) : Prop :=
  t = { u with tx := t.tx, busy := true } ∧ ∀ a, t.tx.read a = bs.getD a 0x00

/-- `t` is `u` with the exchange ended: `busy` is 0, RX holds the reply after an ok outcome and anything after an error, and nothing
else of the block differs (`draws` is the model's own count of free values). -/
def Sys2Proof.Claims.Receives (o : XferOutcome) (u t : State) : Prop :=
  t = { u with rx := t.rx, busy := false, draws := t.draws } ∧ ∀ R, o = .ok R → ∀ a, t.rx.read a = R.get a

/-- The 4-byte big-endian field of a frame at offset `o` (20_memory.md R72). -/
def Sys2Proof.Claims.field (R : Frame) (o : Nat) : Word := R.get o ++ R.get (o + 1) ++ R.get (o + 2) ++ R.get (o + 3)

/-- The same field of a frame space. -/
def Sys2Proof.Claims.fieldAt (m : Memory) (o : Nat) : Word := m.read o ++ m.read (o + 1) ++ m.read (o + 2) ++ m.read (o + 3)

/-- `code(timeout)` and `code(iofail)` (60_exceptions.md R321). -/
def Sys2Proof.Claims.reason : XferError → ErrorCode
  | .timeout => .transportTimeout
  | .iofail => .transportIoFailure

/-- The report of a transport error outside a probe and outside a cycle (60_exceptions.md R324). -/
def Sys2Proof.Claims.reports (op : Byte) : XferOutcome → List Event
  | .ok _ => []
  | .fail e => [.xferError op (Claims.reason e)]

/-- `u` with its poll cycle failed by a transport error of the sensor frame `op` (42_link_session.md R234, 43_telemetry.md R274), and
with the accumulator of `t`: what a failed cycle leaves there is open (93_implementation_defined.md section 1). -/
def Sys2Proof.Claims.cycleLost (op : Byte) (e : XferError) (u t : State) : State :=
  { u with
    accAccel := t.accAccel
    accGyro := t.accGyro
    accPose := t.accPose
    accOrient := t.accOrient
    accDr := t.accDr
    events := u.events ++ [.xferError op (Claims.reason e), .cycleError u.seq (Claims.reason e)]
    seq := u.seq + 1
    cycleActive := false
    cycleStep := .setup }

/-- The reply confirms the handshake (30_encoding.md R108). -/
def Sys2Proof.Claims.Confirms (o : XferOutcome) : Prop :=
  ∃ R, o = .ok R ∧ R.get 0 = 0x00 ∧ R.get 1 = 0xFF ∧ R.get 2 = 0x00

/-- The sequence number an event gives a finished cycle (43_telemetry.md R276). -/
def Sys2Proof.Claims.finished : Event → Option Word
  | .record r => some r.sequence
  | .cycleError q _ => some q
  | .xferError _ _ => none
  | .probeStall _ => none

/-- The next step is the completion of a frame with opcode `op`, with the reply `R`. -/
def Sys2Proof.Claims.Completes (op : Byte) (R : Frame) (s : State) : Prop :=
  s.busy = true ∧ s.tx.read 0 = op ∧ nextTurn s = .complete (.ok R)

/-- The step from `s` to `t` puts a SHUTDOWN frame in flight. -/
def Sys2Proof.Claims.SendsShutdown (s t : State) : Prop :=
  s.busy = false ∧ t.busy = true ∧ t.tx.read 0 = s.cfg.opShutdown

/-- A turn that is no reset. -/
def Sys2Proof.Claims.notReset (u : Turn) : Prop := ∀ p, u ≠ .reset p

/-- The rational value of a finite binary32 pattern (00_scope.md R16). -/
def Sys2Proof.Claims.value (v : Word) : ℚ :=
  (if v.getLsbD 31 then -1 else 1) *
    (if v.extractLsb' 23 8 = 0 then ((v.extractLsb' 0 23).toNat : ℚ) * 2 ^ (-149 : ℤ)
     else ((2 ^ 23 + (v.extractLsb' 0 23).toNat : ℕ) : ℚ) * 2 ^ (((v.extractLsb' 23 8).toNat : ℤ) - 150))

/-! ## Encoding -/

/-- Decode and encode agree on every well-formed instruction, under every configuration (30_encoding.md). -/
def Obligations.DecodeOfEncodeIsTheInstruction : Prop :=
  ∀ (c : Config) (i : Instr), i.WellFormed = true → decode c (encode c i) = .ok i

/-- Every word of the host command port has one meaning: encoding what it decodes to gives it back (R110, R111, R115). That the
arguments a command ignores survive decoding is the model's choice (log 23); the spec gives them no effect. -/
def Obligations.EncodeOfDecodedHostWordIsTheWord : Prop :=
  ∀ (c : Config) (w : HostWord), encode c (decodeHost w) = .host w

/-- A few words written out from the spec's encodings decode to the instructions they stand for (R101 to R103, R111, R115). -/
def Obligations.WrittenOutWordsDecode : Prop :=
  ∀ c : Config,
    decode c (.frame (Frame.pad [0x00, 0x3F, 0xC0, 0x00, 0x00, 0xBE, 0x80, 0x00, 0x00])) = .ok (.velocity 0x3FC00000 0xBE800000) ∧
    decode c (.frame (Frame.pad [0x03])) = .ok .sensorGyro ∧
    decode c (.frame (Frame.pad [0xFF, 0xFF])) = .ok .ping ∧
    decode c (.host ⟨0x2, 0x3FC00000, 0xBE800000⟩) = .ok (.setVelocity 0x3FC00000 0xBE800000) ∧
    decode c (.host ⟨0x9, 1, 2⟩) = .ok (.hostReservedHigh 1 1 2)

/-- A frame decodes exactly when its byte 0 is one of the nine opcodes, and is rejected by name otherwise (R113, R114). -/
def Obligations.OnlyListedOpcodesDecode : Prop :=
  ∀ (c : Config) (F : Frame),
    (F.get 0 ∈ Claims.opcodes c → ∃ i, decodeFrame c F = .ok i ∧ Claims.isFrame i = true) ∧
    (F.get 0 ∉ Claims.opcodes c → decodeFrame c F = .error (.reservedFrameOpcode (F.get 0)))

/-- 40_codec.md R142: the frame of two finite operands, byte by byte; no frame for a non-finite one. -/
def Obligations.VelocityIsEncodedBitForBit : Prop :=
  ∀ lin ang : Word,
    (lin.extractLsb' 23 8 ≠ 0xFF ∧ ang.extractLsb' 23 8 ≠ 0xFF →
      ∃ F, encodeVelocity lin ang = .ok F ∧ F.bytes =
        [0x00, lin.extractLsb' 24 8, lin.extractLsb' 16 8, lin.extractLsb' 8 8, lin.extractLsb' 0 8,
          ang.extractLsb' 24 8, ang.extractLsb' 16 8, ang.extractLsb' 8 8, ang.extractLsb' 0 8, 0, 0, 0, 0, 0, 0, 0]) ∧
    (lin.extractLsb' 23 8 = 0xFF ∨ ang.extractLsb' 23 8 = 0xFF → encodeVelocity lin ang = .error .encodeOutOfRange)

/-- 40_codec.md R143 to R146: the poll, probe, ACK and SHUTDOWN frames, byte by byte. -/
def Obligations.FixedFramesHaveTheirLayout : Prop :=
  ∀ (c : Config) (op : Byte),
    (encodePoll op).bytes = op :: List.replicate 15 0x00 ∧
    encodeProbe.bytes = 0xFF :: 0xFF :: List.replicate 14 0x00 ∧
    (encodeAck c).bytes = c.opAck :: List.replicate 15 0x00 ∧
    (encodeShutdown c).bytes = c.opShutdown :: c.shutdownSentinel :: List.replicate 14 0x00

/-- 40_codec.md R140: the one big-endian field primitive; what is put is got bit for bit, its bytes stand most significant first,
and no other byte changes. -/
def Obligations.FieldPutThenGetMovesThePattern : Prop :=
  ∀ (F : Frame) (o : Nat) (v : Word), o = 1 ∨ o = 5 ∨ o = 9 →
    be32Get F o = Claims.field F o ∧ be32Get (be32Put F o v) o = v ∧
    (be32Put F o v).get o = v.extractLsb' 24 8 ∧ (be32Put F o v).get (o + 1) = v.extractLsb' 16 8 ∧
    (be32Put F o v).get (o + 2) = v.extractLsb' 8 8 ∧ (be32Put F o v).get (o + 3) = v.extractLsb' 0 8 ∧
    ∀ i, i < o ∨ o + 4 ≤ i → (be32Put F o v).get i = F.get i

/-- 40_codec.md R150 to R152: what each decoder answers, for every frame and length. -/
def Obligations.DecodersCheckTheLengthFirst : Prop :=
  ∀ (F : Frame) (len : Nat), len ≤ 16 →
    decodeFloatTriplet F len =
      (if len < 13 then .error .decodeTruncated else .ok (Claims.field F 1, Claims.field F 5, Claims.field F 9)) ∧
    decodeFloatPair F len =
      (if len < 9 then .error .decodeTruncated else .ok (Claims.field F 1, Claims.field F 5)) ∧
    decodeHandshakeReply F len =
      (if len < 3 then .error .decodeTruncated
       else if F.bytes.take 3 = [0x00, 0xFF, 0x00] then .ok .confirmed else .ok .notReady)

/-- 20_memory.md R77: a decoder reads only bytes below the length it is given. -/
def Obligations.DecodersReadNoByteBeyondTheLength : Prop :=
  ∀ (F G : Frame) (len : Nat), (∀ i, i < len → F.get i = G.get i) →
    decodeFloatTriplet F len = decodeFloatTriplet G len ∧
    decodeFloatPair F len = decodeFloatPair G len ∧
    decodeHandshakeReply F len = decodeHandshakeReply G len

/-- 40_codec.md R153. -/
def Obligations.VelocityRoundTripIsExact : Prop :=
  ∀ lin ang : Word, isFinite lin = true → isFinite ang = true →
    ∃ F, encodeVelocity lin ang = .ok F ∧ decodeFloatPair F 16 = .ok (lin, ang)

/-- 20_memory.md R73: the bits of a frame on the wire, bytes in address order and each most significant bit first; reading them
back in that order gives the frame. -/
def Obligations.WireOrderIsMsbFirst : Prop :=
  ∀ F : Frame, (wireBits F).length = 128 ∧
    (∀ i j, i < 16 → j < 8 → (wireBits F)[8 * i + j]? = some ((F.get i).getLsbD (7 - j))) ∧
    frameOfWire (wireBits F) = F

/-- 41_transport.md R183, R184: chip select is low over the 128 clocks of an exchange and high outside one; what is sampled on the two
lines as SCLK rises is each side's frame in wire order, the two at once, and it makes the other side's frame. -/
def Obligations.ExchangePinsCarryBothFrames : Prop :=
  (∀ F G : Frame, (exchangePins F G).length = 2 * 128 ∧ (∀ p ∈ exchangePins F G, p.cs = false) ∧
    sampled PinLevels.mosi (exchangePins F G) = wireBits F ∧ sampled PinLevels.miso (exchangePins F G) = wireBits G ∧
    frameOfWire (sampled PinLevels.mosi (exchangePins F G)) = F ∧
    frameOfWire (sampled PinLevels.miso (exchangePins F G)) = G) ∧
  (∀ s : State, chipSelectLevel s = false ↔ s.busy = true) ∧
  (∀ s : State, Inv s → s.busOpen = false → chipSelectLevel s = true)

/-! ## State, reset and configuration -/

/-- 10_state.md R48: every field of the status word is a copy of its state element, the reserved bits read 0, and all of it is 0 after
reset; the numbers of `link_state` and `cycle_step` (R32, R42), with the frame of each cycle step; and the two counter ports (R49). -/
def Obligations.StatusWordShowsTheState : Prop :=
  statusWord State.reset = 0 ∧
  [.uninitialized, .handshaking, .ready, .shuttingDown, .closed].map LinkState.code = [0, 1, 2, 3, 4] ∧
  [.setup, .accel, .gyro, .position, .deadReckoning].map CycleStep.code = [0, 1, 2, 3, 4] ∧
  [.setup, .accel, .gyro, .position, .deadReckoning].map CycleStep.instr =
    [.sensorSetup, .sensorAccel, .sensorGyro, .sensorPosition, .sensorDeadReckoning] ∧
  ∀ s : State,
    seqPort s = s.seq ∧ probeFailsPort s = s.probeFails ∧
    (statusWord s).extractLsb' 0 3 = s.linkState.code ∧
    (statusWord s).getLsbD 3 = s.busOpen ∧ (statusWord s).getLsbD 4 = s.busy ∧
    (statusWord s).getLsbD 5 = s.ackPending ∧ (statusWord s).getLsbD 6 = s.slotValid ∧
    (statusWord s).getLsbD 7 = s.pollDue ∧ (statusWord s).getLsbD 8 = s.cycleActive ∧
    (statusWord s).extractLsb' 9 3 = s.cycleStep.code ∧ (statusWord s).getLsbD 12 = s.termPending ∧
    ((statusWord s).extractLsb' 13 2).toNat = s.shutdownCount.val ∧ (statusWord s).getLsbD 15 = s.probeWait ∧
    (statusWord s).extractLsb' 16 16 = 0

/-- 70_reset_and_hazards.md R360: the value of every element the rule gives one. -/
def Obligations.ResetValues : Prop :=
  State.reset.linkState = .uninitialized ∧ State.reset.busOpen = false ∧ State.reset.busy = false ∧
  State.reset.ackPending = false ∧ State.reset.probeWait = false ∧ State.reset.termPending = false ∧
  State.reset.shutdownCount = 0 ∧ State.reset.slotValid = false ∧ State.reset.pollDue = false ∧
  State.reset.cycleActive = false ∧ State.reset.cycleStep = .setup ∧ State.reset.seq = 0 ∧
  State.reset.probeFails = 0 ∧ statusWord State.reset = 0

/-- The RESET step (70_reset_and_hazards.md R361, R362), in every state, an exchange in flight or not: every element takes its
reset value, the parameters are sampled and held over every run up to the next reset, chip select is high, no event and no response. That the unspecified elements take zero is the model's choice
(log 9, 10, 11) and is not stated. -/
def Obligations.ResetRestoresEveryElement : Prop :=
  ∀ (s : State) (p : Params), nextTurn s = .reset p → p.wf = true →
    ∃ t, step s = .next t ∧ t.cfg.toParams = p ∧ t.linkState = .uninitialized ∧ t.busOpen = false ∧ t.busy = false ∧
      t.ackPending = false ∧ t.probeWait = false ∧ t.termPending = false ∧ t.shutdownCount = 0 ∧ t.slotValid = false ∧
      t.pollDue = false ∧ t.cycleActive = false ∧ t.cycleStep = .setup ∧ t.seq = 0 ∧ t.probeFails = 0 ∧
      statusWord t = 0 ∧ chipSelectLevel t = true ∧ t.events = s.events ∧ t.responses = s.responses ∧
      ∀ (n : Nat) (u : State), (∀ m v, m < n → Host.Core.run Sys2Proof.core m t = .next v → Claims.notReset (nextTurn v)) →
        Host.Core.run Sys2Proof.core n t = .next u → u.cfg.toParams = p

/-- 00_scope.md R11: parameters whose opcodes are not distinct are refused, in every state. -/
def Obligations.IllFormedParametersAreRefused : Prop :=
  ∀ (s : State) (p : Params), nextTurn s = .reset p →
    (p.opAck ∈ [0x00, 0x01, 0x02, 0x03, 0x04, 0x05, 0xFF] ∨ p.opShutdown ∈ [0x00, 0x01, 0x02, 0x03, 0x04, 0x05, 0xFF] ∨
      p.opAck = p.opShutdown) →
    step s = .refused .illFormedConfig

/-- 00_scope.md R12: no step but a reset writes a parameter. -/
def Obligations.ParametersAreHeldBetweenResets : Prop :=
  ∀ s t : State, step s = .next t → Claims.notReset (nextTurn s) → t.cfg = s.cfg

/-- The invariants of 10_state.md R50, and those that make them inductive, hold at reset, whatever the configuration and whatever
turns are listed. -/
def Obligations.InvariantHoldsAtReset : Prop :=
  ∀ (c : Config) (ts : List Turn), Inv State.reset ∧ Inv { State.reset with cfg := c, turns := ts }

/-- The invariants of 10_state.md R50, and those that make them inductive, are kept by every step of every agent. -/
def Obligations.StepKeepsTheInvariant : Prop :=
  ∀ s t : State, Inv s → step s = .next t → Inv t

/-- The block never enters a fault or halt state (60_exceptions.md R333): from a state that meets the invariant every step goes on;
the one stop is the model's refusal of ill-formed parameters (00_scope.md R11). -/
def Obligations.NoStepStopsButAnIllFormedReset : Prop :=
  ∀ s : State, Inv s →
    (∃ t, step s = .next t) ∨ ∃ p, nextTurn s = .reset p ∧ p.wf = false ∧ step s = .refused .illFormedConfig

/-- Events and responses are only ever appended, by every step, a reset among them (20_memory.md R84, 70_reset_and_hazards.md
R361); and the kind of each event (60_exceptions.md R330). -/
def Obligations.HistoriesOnlyGrow : Prop :=
  (∀ s t : State, step s = .next t → s.events <+: t.events ∧ s.responses <+: t.responses) ∧
  (∀ (r : TelemetryRecord) (q : Word) (op : Byte) (c : ErrorCode),
    [.record r, .cycleError q c, .xferError op c, .probeStall q].map Event.kind = [0x1#4, 0x2, 0x3, 0x4])

/-! ## Host commands -/

/-- 42_link_session.md R220: START, in every state, with every argument. -/
def Obligations.StartCommand : Prop :=
  ∀ (a b : Word) (s : State),
    (s.linkState = .uninitialized → exec (.start a b) s =
      .next { s with busOpen := true, probeWait := false, linkState := .handshaking, responses := s.responses ++ [.ok] }) ∧
    (s.linkState = .closed → exec (.start a b) s = .next { s with responses := s.responses ++ [.linkClosed] }) ∧
    (s.linkState = .handshaking ∨ s.linkState = .ready ∨ s.linkState = .shuttingDown →
      exec (.start a b) s = .next { s with responses := s.responses ++ [.badState] })

/-- 42_link_session.md R221 and 60_exceptions.md R340: SET_VELOCITY; the state checks come first, then finiteness. -/
def Obligations.SetVelocityCommand : Prop :=
  ∀ (lin ang : Word) (s : State),
    (s.linkState = .shuttingDown ∨ s.linkState = .closed ∨ s.termPending = true →
      exec (.setVelocity lin ang) s = .next { s with responses := s.responses ++ [.linkClosed] }) ∧
    (s.linkState ≠ .shuttingDown → s.linkState ≠ .closed → s.termPending = false →
      (lin.extractLsb' 23 8 = 0xFF ∨ ang.extractLsb' 23 8 = 0xFF →
        exec (.setVelocity lin ang) s = .next { s with responses := s.responses ++ [.encodeOutOfRange] }) ∧
      (lin.extractLsb' 23 8 ≠ 0xFF ∧ ang.extractLsb' 23 8 ≠ 0xFF →
        exec (.setVelocity lin ang) s = .next
          { s with slotLin := lin, slotAng := ang, slotValid := true, responses := s.responses ++ [.ok] }))

/-- 42_link_session.md R222: TERMINATE, in every state, with every argument. -/
def Obligations.TerminateCommand : Prop :=
  ∀ (a b : Word) (s : State),
    (s.linkState = .uninitialized → exec (.terminate a b) s =
      .next { s with slotValid := false, linkState := .closed, responses := s.responses ++ [.ok] }) ∧
    (s.linkState = .handshaking ∨ s.linkState = .ready → exec (.terminate a b) s =
      .next { s with termPending := true, responses := s.responses ++ [.ok] }) ∧
    (s.linkState = .shuttingDown → exec (.terminate a b) s = .next { s with responses := s.responses ++ [.ok] }) ∧
    (s.linkState = .closed → exec (.terminate a b) s = .next { s with responses := s.responses ++ [.linkClosed] })

/-- 42_link_session.md R223: the three rows of reserved codes, and every word whose code is reserved. -/
def Obligations.ReservedHostCodes : Prop :=
  ∀ (s : State) (a b : Word) (j : BitVec 2) (k : BitVec 3) (w : HostWord),
    exec (.hostReservedZero a b) s = .next { s with responses := s.responses ++ [.illegalCmd] } ∧
    exec (.hostReservedLow j a b) s = .next { s with responses := s.responses ++ [.illegalCmd] } ∧
    exec (.hostReservedHigh k a b) s = .next { s with responses := s.responses ++ [.illegalCmd] } ∧
    (w.cmd ≠ 0x1 → w.cmd ≠ 0x2 → w.cmd ≠ 0x3 →
      exec (decodeHost w) s = .next { s with responses := s.responses ++ [.illegalCmd] })

/-- The frame of the host commands (20_memory.md R81, 30_encoding.md R112): every word on the port completes, in every state, with one
response of the five codes; it writes at most the elements listed, so no byte of TX or RX, and not `busy`. And the numbers of all
nine codes (60_exceptions.md R321). -/
def Obligations.HostCommandsTouchOnlyTheirElements : Prop :=
  [.ok, .encodeOutOfRange, .decodeTruncated, .transportTimeout, .transportIoFailure, .linkClosed, .cyclePreempted, .badState,
    .illegalCmd].map ErrorCode.code = [0x0, 0x1, 0x2, 0x3, 0x4, 0x5, 0x6, 0x7, 0x8] ∧
  ∀ (w : HostWord) (s : State), ∃ t r, exec (decodeHost w) s = .next t ∧
    t.responses = s.responses ++ [r] ∧ r.code ∈ [0x0#4, 0x1, 0x5, 0x7, 0x8] ∧
    t = { s with
      responses := t.responses
      linkState := t.linkState
      busOpen := t.busOpen
      probeWait := t.probeWait
      termPending := t.termPending
      slotValid := t.slotValid
      slotLin := t.slotLin
      slotAng := t.slotAng } ∧
    (∀ a, t.tx.read a = s.tx.read a) ∧ (∀ a, t.rx.read a = s.rx.read a) ∧ t.busy = s.busy

/-- 42_link_session.md R249, 70_reset_and_hazards.md R376: in `Closed` a step other than a reset changes nothing but the responses,
and the host gets LINK_CLOSED, or ILLEGAL_CMD for a reserved code. -/
def Obligations.ClosedOnlyAnswers : Prop :=
  ∀ s : State, Inv s → s.linkState = .closed → Claims.notReset (nextTurn s) →
    ∃ t, step s = .next t ∧ t = { s with responses := t.responses, turns := t.turns, draws := t.draws } ∧
      (∀ w, nextTurn s = .host w → t.responses = s.responses ++
        [if w.cmd = 0x1 ∨ w.cmd = 0x2 ∨ w.cmd = 0x3 then .linkClosed else .illegalCmd]) ∧
      ((∀ w, nextTurn s ≠ .host w) → t.responses = s.responses)

/-! ## The Sequencer -/

/-- 42_link_session.md R231: the clauses of the selection, the first that holds winning. -/
def Obligations.SelectionOrder : Prop :=
  ∀ s : State,
    ((s.linkState = .handshaking ∨ s.linkState = .ready) → s.termPending = true → select s = some .preempt) ∧
    (s.linkState = .shuttingDown → s.shutdownCount < 2 → select s = some .shutdown) ∧
    (s.linkState = .handshaking → s.termPending = false → s.probeWait = false → select s = some .ping) ∧
    (s.linkState = .ready → s.termPending = false →
      (s.ackPending = true → select s = some .ack) ∧
      (s.ackPending = false →
        (s.cycleActive = true → select s = some (.sensor s.cycleStep)) ∧
        (s.cycleActive = false →
          (s.slotValid = true → select s = some .velocity) ∧
          (s.slotValid = false → (s.pollDue = true → select s = some .startCycle) ∧ (s.pollDue = false → select s = none))))) ∧
    (s.linkState = .uninitialized ∨ s.linkState = .closed → select s = none) ∧
    (s.linkState = .shuttingDown → s.shutdownCount = 2 → select s = none) ∧
    (s.linkState = .handshaking → s.termPending = false → s.probeWait = true → select s = none)

/-- 42_link_session.md R230, 30_encoding.md R114: the Sequencer's turn. Where no issue is enabled nothing changes; where one is, exactly one
frame is in flight after it, and its byte 0 is one of the nine opcodes. The premise on the slot is R221's: the slot only ever holds
finite values. -/
def Obligations.IssueStepSendsOneListedFrame : Prop :=
  ∀ s : State, nextTurn s = .issue → (s.slotValid = true → isFinite s.slotLin = true ∧ isFinite s.slotAng = true) →
    (s.busy = true ∨ s.busOpen = false ∨ select s = none →
      ∃ t, step s = .next t ∧ t = { s with turns := t.turns, draws := t.draws }) ∧
    (s.busy = false → s.busOpen = true → select s ≠ none →
      ∃ t, step s = .next t ∧ t.busy = true ∧ t.tx.read 0 ∈ Claims.opcodes s.cfg)

/-- 42_link_session.md R232: PREEMPT, in Handshaking and in Ready, with a cycle active or not. What a preempted cycle leaves in the
accumulator is open (93_implementation_defined.md section 1) and is not stated. -/
def Obligations.PreemptTakesTheTermination : Prop :=
  ∀ s : State, s.busy = false → s.busOpen = true → (s.linkState = .handshaking ∨ s.linkState = .ready) → s.termPending = true →
    ∃ t, exec .shutdown s = .next t ∧
      Claims.Sends [s.cfg.opShutdown, s.cfg.shutdownSentinel]
        { s with
          termPending := false
          ackPending := false
          slotValid := false
          pollDue := false
          probeWait := false
          shutdownCount := 1
          linkState := .shuttingDown
          cycleActive := false
          cycleStep := if s.cycleActive = true then .setup else s.cycleStep
          accAccel := if s.cycleActive = true then t.accAccel else s.accAccel
          accGyro := if s.cycleActive = true then t.accGyro else s.accGyro
          accPose := if s.cycleActive = true then t.accPose else s.accPose
          accOrient := if s.cycleActive = true then t.accOrient else s.accOrient
          accDr := if s.cycleActive = true then t.accDr else s.accDr
          seq := if s.cycleActive = true then s.seq + 1 else s.seq
          events := if s.cycleActive = true then s.events ++ [.cycleError s.seq .cyclePreempted] else s.events } t

/-! ## One statement per frame opcode: its issue, and its completion for every outcome -/

/-- 42_link_session.md R236 and R237: PING. -/
def Obligations.PingExchange : Prop :=
  ∀ s : State,
    (s.busy = false → s.busOpen = true → s.linkState = .handshaking → s.termPending = false → s.probeWait = false →
      ∃ t, exec .ping s = .next t ∧ Claims.Sends [0xFF, 0xFF] s t) ∧
    (s.busy = true → s.tx.read 0 = 0xFF →
      (Claims.Confirms s.outcome →
        ∃ t, exec .ping s = .next t ∧ Claims.Receives s.outcome { s with linkState := .ready, ackPending := true } t) ∧
      (¬ Claims.Confirms s.outcome →
        ∃ t, exec .ping s = .next t ∧ Claims.Receives s.outcome
          { s with
            probeFails := s.probeFails + 1
            probeWait := true
            events := s.events ++
              if s.cfg.probeReportN ≠ 0 ∧ (s.probeFails + 1).toNat % s.cfg.probeReportN.toNat = 0 then
                [.probeStall (s.probeFails + 1)]
              else [] } t))

/-- 42_link_session.md R238: ACK. -/
def Obligations.AckExchange : Prop :=
  ∀ s : State,
    (s.busy = false → s.busOpen = true → s.linkState = .ready → s.termPending = false → s.ackPending = true →
      ∃ t, exec .ack s = .next t ∧ Claims.Sends [s.cfg.opAck] s t) ∧
    (s.busy = true → s.tx.read 0 = s.cfg.opAck →
      ∃ t, exec .ack s = .next t ∧ Claims.Receives s.outcome
        { s with ackPending := false, events := s.events ++ Claims.reports s.cfg.opAck s.outcome } t)

/-- 42_link_session.md R239: VELOCITY. The premise on the slot is R221's: the slot only ever holds finite values. -/
def Obligations.VelocityExchange : Prop :=
  ∀ s : State,
    (s.busy = false → s.busOpen = true → s.linkState = .ready → s.termPending = false → s.ackPending = false →
      s.cycleActive = false → s.slotValid = true → isFinite s.slotLin = true → isFinite s.slotAng = true →
      ∃ t, exec (.velocity s.slotLin s.slotAng) s = .next t ∧
        Claims.Sends
          [0x00, s.slotLin.extractLsb' 24 8, s.slotLin.extractLsb' 16 8, s.slotLin.extractLsb' 8 8, s.slotLin.extractLsb' 0 8,
            s.slotAng.extractLsb' 24 8, s.slotAng.extractLsb' 16 8, s.slotAng.extractLsb' 8 8, s.slotAng.extractLsb' 0 8]
          { s with slotValid := false } t) ∧
    (s.busy = true → s.tx.read 0 = 0x00 →
      ∃ t, exec (.velocity (Claims.fieldAt s.tx 1) (Claims.fieldAt s.tx 5)) s = .next t ∧
        Claims.Receives s.outcome { s with events := s.events ++ Claims.reports 0x00 s.outcome } t)

/-- 42_link_session.md R240 and R233: SENSOR_SETUP, through START_CYCLE and through selection clause 5. -/
def Obligations.SetupExchange : Prop :=
  ∀ s : State,
    (s.busy = false → s.busOpen = true → s.linkState = .ready → s.termPending = false → s.ackPending = false →
      (s.cycleActive = false → s.slotValid = false → s.pollDue = true →
        ∃ t, exec .sensorSetup s = .next t ∧
          Claims.Sends [0x01] { s with pollDue := false, cycleActive := true, cycleStep := .setup } t) ∧
      (s.cycleActive = true → s.cycleStep = .setup → ∃ t, exec .sensorSetup s = .next t ∧ Claims.Sends [0x01] s t)) ∧
    (s.busy = true → s.tx.read 0 = 0x01 →
      (∀ R, s.outcome = .ok R →
        ∃ t, exec .sensorSetup s = .next t ∧ Claims.Receives s.outcome { s with cycleStep := .accel } t) ∧
      (∀ e, s.outcome = .fail e →
        ∃ t, exec .sensorSetup s = .next t ∧ Claims.Receives s.outcome (Claims.cycleLost 0x01 e s t) t))

/-- 42_link_session.md R241, 43_telemetry.md R261: SENSOR_ACCEL. -/
def Obligations.AccelExchange : Prop :=
  ∀ s : State,
    (s.busy = false → s.busOpen = true → s.linkState = .ready → s.termPending = false → s.ackPending = false →
      s.cycleActive = true → s.cycleStep = .accel → ∃ t, exec .sensorAccel s = .next t ∧ Claims.Sends [0x02] s t) ∧
    (s.busy = true → s.tx.read 0 = 0x02 →
      (∀ R, s.outcome = .ok R →
        ∃ t, exec .sensorAccel s = .next t ∧ Claims.Receives s.outcome
          { s with
            cycleStep := .gyro
            accAccel :=
              if s.cfg.accelUnits = .g then
                ⟨fmul32 (Claims.field R 1) 0x411CF5C3, fmul32 (Claims.field R 5) 0x411CF5C3, fmul32 (Claims.field R 9) 0x411CF5C3⟩
              else ⟨Claims.field R 1, Claims.field R 5, Claims.field R 9⟩ } t) ∧
      (∀ e, s.outcome = .fail e →
        ∃ t, exec .sensorAccel s = .next t ∧ Claims.Receives s.outcome (Claims.cycleLost 0x02 e s t) t))

/-- 42_link_session.md R242, 43_telemetry.md R262: SENSOR_GYRO. -/
def Obligations.GyroExchange : Prop :=
  ∀ s : State,
    (s.busy = false → s.busOpen = true → s.linkState = .ready → s.termPending = false → s.ackPending = false →
      s.cycleActive = true → s.cycleStep = .gyro → ∃ t, exec .sensorGyro s = .next t ∧ Claims.Sends [0x03] s t) ∧
    (s.busy = true → s.tx.read 0 = 0x03 →
      (∀ R, s.outcome = .ok R →
        ∃ t, exec .sensorGyro s = .next t ∧ Claims.Receives s.outcome
          { s with
            cycleStep := .position
            accGyro :=
              ⟨fmul32 (Claims.field R 1) 0x3C8EFA35, fmul32 (Claims.field R 5) 0x3C8EFA35, fmul32 (Claims.field R 9) 0x3C8EFA35⟩ } t) ∧
      (∀ e, s.outcome = .fail e →
        ∃ t, exec .sensorGyro s = .next t ∧ Claims.Receives s.outcome (Claims.cycleLost 0x03 e s t) t))

/-- 42_link_session.md R243, 43_telemetry.md R263, R264: SENSOR_POSITION. -/
def Obligations.PositionExchange : Prop :=
  ∀ s : State,
    (s.busy = false → s.busOpen = true → s.linkState = .ready → s.termPending = false → s.ackPending = false →
      s.cycleActive = true → s.cycleStep = .position → ∃ t, exec .sensorPosition s = .next t ∧ Claims.Sends [0x04] s t) ∧
    (s.busy = true → s.tx.read 0 = 0x04 →
      (∀ R, s.outcome = .ok R →
        ∃ t, exec .sensorPosition s = .next t ∧ Claims.Receives s.outcome
          { s with
            cycleStep := .deadReckoning
            accPose := ⟨Claims.field R 1, Claims.field R 5, fmul32 (Claims.field R 9) 0x3C8EFA35⟩
            accOrient :=
              ⟨cos32 (fmul32 (fmul32 (Claims.field R 9) 0x3C8EFA35) 0x3F000000), 0, 0,
                sin32 (fmul32 (fmul32 (Claims.field R 9) 0x3C8EFA35) 0x3F000000)⟩ } t) ∧
      (∀ e, s.outcome = .fail e →
        ∃ t, exec .sensorPosition s = .next t ∧ Claims.Receives s.outcome (Claims.cycleLost 0x04 e s t) t))

/-- 42_link_session.md R244, 43_telemetry.md R265, R273: SENSOR_DEAD_RECKONING, which publishes the record. -/
def Obligations.DeadReckoningExchange : Prop :=
  ∀ s : State,
    (s.busy = false → s.busOpen = true → s.linkState = .ready → s.termPending = false → s.ackPending = false →
      s.cycleActive = true → s.cycleStep = .deadReckoning →
      ∃ t, exec .sensorDeadReckoning s = .next t ∧ Claims.Sends [0x05] s t) ∧
    (s.busy = true → s.tx.read 0 = 0x05 →
      (∀ R, s.outcome = .ok R →
        ∃ t, exec .sensorDeadReckoning s = .next t ∧ Claims.Receives s.outcome
          { s with
            accDr := ⟨Claims.field R 1, Claims.field R 5⟩
            events := s.events ++
              [.record ⟨s.seq, s.accAccel, s.accGyro, s.accPose, s.accOrient, ⟨Claims.field R 1, Claims.field R 5⟩⟩]
            seq := s.seq + 1
            cycleActive := false
            cycleStep := .setup } t) ∧
      (∀ e, s.outcome = .fail e →
        ∃ t, exec .sensorDeadReckoning s = .next t ∧ Claims.Receives s.outcome (Claims.cycleLost 0x05 e s t) t))

/-- 44_shutdown.md R301 to R303: SHUTDOWN's issue in ShuttingDown, and its completion; the second one releases the bus. -/
def Obligations.ShutdownExchange : Prop :=
  ∀ s : State,
    (s.busy = false → s.busOpen = true → s.linkState = .shuttingDown → s.shutdownCount < 2 →
      ∃ t, exec .shutdown s = .next t ∧
        Claims.Sends [s.cfg.opShutdown, s.cfg.shutdownSentinel]
          { s with shutdownCount := if s.shutdownCount = 0 then 1 else 2 } t) ∧
    (s.busy = true → s.tx.read 0 = s.cfg.opShutdown →
      (s.shutdownCount = 2 →
        ∃ t, exec .shutdown s = .next t ∧ Claims.Receives s.outcome
          { s with
            events := s.events ++ Claims.reports s.cfg.opShutdown s.outcome
            busOpen := false
            linkState := .closed } t) ∧
      (s.shutdownCount ≠ 2 →
        ∃ t, exec .shutdown s = .next t ∧ Claims.Receives s.outcome
          { s with events := s.events ++ Claims.reports s.cfg.opShutdown s.outcome } t))

/-! ## Frames: what an issue and a completion leave unchanged -/

/-- The frame of every issue: where a frame's meaning answers at a boundary, every byte of TX is the byte of that frame's encoding,
every byte of RX is unchanged, and so is every element the rules R232, R233, R236 to R244 and R301 do not name for it. The accumulator
is unchanged but where SHUTDOWN preempts a cycle: what that leaves there is open (93_implementation_defined.md section 1). -/
def Obligations.IssueWritesTxAndItsElements : Prop :=
  ∀ (i : Instr) (s t : State), Claims.isFrame i = true → s.busy = false → exec i s = .next t →
    (∃ F, encode s.cfg i = .frame F ∧ ∀ a, t.tx.read a = F.get a) ∧ t.busy = true ∧
    (∀ a, t.rx.read a = s.rx.read a) ∧
    t.cfg = s.cfg ∧ t.busOpen = s.busOpen ∧ t.slotLin = s.slotLin ∧ t.slotAng = s.slotAng ∧
    (i ≠ .shutdown ∨ s.cycleActive = false →
      t.accAccel = s.accAccel ∧ t.accGyro = s.accGyro ∧ t.accPose = s.accPose ∧ t.accOrient = s.accOrient ∧ t.accDr = s.accDr) ∧
    t.probeFails = s.probeFails ∧ t.responses = s.responses ∧ t.outcome = s.outcome ∧ t.turns = s.turns ∧ t.draws = s.draws ∧
    (i ≠ .shutdown →
      t.linkState = s.linkState ∧ t.ackPending = s.ackPending ∧ t.probeWait = s.probeWait ∧ t.termPending = s.termPending ∧
      t.shutdownCount = s.shutdownCount ∧ t.seq = s.seq ∧ t.events = s.events ∧
      (i ≠ .sensorSetup → t.pollDue = s.pollDue ∧ t.cycleActive = s.cycleActive ∧ t.cycleStep = s.cycleStep) ∧
      ((∀ l a, i ≠ .velocity l a) → t.slotValid = s.slotValid))

/-- The frame of every completion: no byte of TX changes, and every element the rules R236 to R244 and R302 do not name for the
frame is unchanged. What a failed cycle leaves in the accumulator is open (93_implementation_defined.md section 1) and is not
stated. -/
def Obligations.CompletionWritesRxAndItsElements : Prop :=
  ∀ (i : Instr) (s t : State), Claims.isFrame i = true → s.busy = true → exec i s = .next t →
    t.busy = false ∧ (∀ a, t.tx.read a = s.tx.read a) ∧ (∀ R, s.outcome = .ok R → ∀ a, t.rx.read a = R.get a) ∧
    t.cfg = s.cfg ∧ t.termPending = s.termPending ∧ t.shutdownCount = s.shutdownCount ∧ t.slotValid = s.slotValid ∧
    t.slotLin = s.slotLin ∧ t.slotAng = s.slotAng ∧ t.pollDue = s.pollDue ∧ t.responses = s.responses ∧
    t.outcome = s.outcome ∧ t.turns = s.turns ∧
    (i ≠ .ping → t.probeWait = s.probeWait ∧ t.probeFails = s.probeFails) ∧
    (i ≠ .ping → i ≠ .ack → t.ackPending = s.ackPending) ∧
    (i ≠ .ping → i ≠ .shutdown → t.linkState = s.linkState) ∧
    (i ≠ .shutdown → t.busOpen = s.busOpen) ∧
    ((∃ R, s.outcome = .ok R) ∨ (∀ k, i ≠ CycleStep.instr k) →
      (i ≠ .sensorAccel → t.accAccel = s.accAccel) ∧
      (i ≠ .sensorGyro → t.accGyro = s.accGyro) ∧
      (i ≠ .sensorPosition → t.accPose = s.accPose ∧ t.accOrient = s.accOrient) ∧
      (i ≠ .sensorDeadReckoning → t.accDr = s.accDr)) ∧
    ((∀ k, i ≠ CycleStep.instr k) →
      t.cycleActive = s.cycleActive ∧ t.cycleStep = s.cycleStep ∧ t.seq = s.seq)

/-! ## Steps -/

/-- A step runs the decoded instruction: a host word on the port, the frame in TX while it is in flight, and the frame the Sequencer
selects at a boundary. What the step adds around exec: the turn is taken off the list, and a completion's outcome is presented. -/
def Obligations.StepRunsTheDecodedInstruction : Prop :=
  ∀ (s : State) (ts : List Turn) (i : Instr),
    (∀ w, s.turns = .host w :: ts → decode s.cfg (.host w) = .ok i → step s = exec i { s with turns := ts }) ∧
    (∀ o, s.turns = .complete o :: ts → s.busy = true → decode s.cfg (.frame s.tx.toFrame) = .ok i →
      step s = exec i { s with turns := ts, outcome := o }) ∧
    (s.turns = .issue :: ts → selectedFrame s = some i → step s = exec i { s with turns := ts })

/-- What is placed is run next (log 16): a host word by exec of what it decodes to; a frame by the issue of what it decodes to, in every
state, its encoding standing in TX after the step. -/
def Obligations.PlacedWordIsRunNext : Prop :=
  ∀ (s : State) (nbits w : Nat),
    (∀ h, tablePacket nbits w = .host h → step (s.withFetchWord nbits w) = exec (decodeHost h) s) ∧
    (∀ F i, tablePacket nbits w = .frame F → decodeFrame s.cfg F = .ok i → i.WellFormed = true →
      ∃ t G, step (s.withFetchWord nbits w) = .next t ∧ t.busy = true ∧ encode s.cfg i = .frame G ∧
        ∀ a, t.tx.read a = G.get a)

/-- 41_transport.md R189: while an exchange is in flight no step but its completion or a reset changes TX, RX or `busy`. -/
def Obligations.NoFrameIsAbortedButByReset : Prop :=
  ∀ s t : State, s.busy = true → step s = .next t → Claims.notReset (nextTurn s) → (∀ o, nextTurn s ≠ .complete o) →
    t.busy = true ∧ (∀ a, t.tx.read a = s.tx.read a) ∧ (∀ a, t.rx.read a = s.rx.read a)

/-- 20_memory.md R80, 41_transport.md R181: an exchange starts only in a Sequencer's turn, at a boundary, on an open bus; and TX changes in
no other step but a reset. -/
def Obligations.ExchangesStartOnlyOnAnOpenBus : Prop :=
  ∀ s t : State, step s = .next t → Claims.notReset (nextTurn s) → (∃ a, t.tx.read a ≠ s.tx.read a) ∨ (s.busy = false ∧ t.busy = true) →
    nextTurn s = .issue ∧ s.busy = false ∧ s.busOpen = true ∧ t.busy = true

/-- 41_transport.md R186, R187: an exchange in flight ends with its completion, whatever the outcome. -/
def Obligations.EveryCompletionEndsTheExchange : Prop :=
  ∀ (s : State) (o : XferOutcome), Inv s → s.busy = true → nextTurn s = .complete o →
    ∃ t, step s = .next t ∧ t.busy = false ∧ ∀ R, o = .ok R → ∀ a, t.rx.read a = R.get a

/-- 42_link_session.md R210: every change of `link_state` but a reset's, with its cause; no other transition exists. -/
def Obligations.LinkStateTransitions : Prop :=
  ∀ s t : State, Inv s → step s = .next t → Claims.notReset (nextTurn s) →
    t.linkState = s.linkState ∨
    (s.linkState = .uninitialized ∧ t.linkState = .handshaking ∧ ∃ w, nextTurn s = .host w ∧ w.cmd = 0x1) ∨
    (s.linkState = .uninitialized ∧ t.linkState = .closed ∧ ∃ w, nextTurn s = .host w ∧ w.cmd = 0x3) ∨
    (s.linkState = .handshaking ∧ t.linkState = .ready ∧ s.busy = true ∧ s.tx.read 0 = 0xFF ∧
      ∃ o, nextTurn s = .complete o ∧ Claims.Confirms o) ∨
    ((s.linkState = .handshaking ∨ s.linkState = .ready) ∧ t.linkState = .shuttingDown ∧ s.busy = false ∧
      s.termPending = true ∧ nextTurn s = .issue) ∨
    (s.linkState = .shuttingDown ∧ t.linkState = .closed ∧ s.busy = true ∧ s.tx.read 0 = s.cfg.opShutdown ∧
      s.shutdownCount = 2 ∧ ∃ o, nextTurn s = .complete o)

/-- 60_exceptions.md R345, R346: the two timers. -/
def Obligations.TimersSetTheirBit : Prop :=
  ∀ (s : State) (ts : List Turn),
    (s.turns = .probeDelay :: ts → step s = .next { s with probeWait := false, turns := ts }) ∧
    (s.turns = .pollTick :: ts → s.linkState = .ready → step s = .next { s with pollDue := true, turns := ts }) ∧
    (s.turns = .pollTick :: ts → s.linkState ≠ .ready → step s = .next { s with turns := ts })

/-! ## Runs -/

/-- 20_memory.md R83: of two commands accepted before one boundary only the second is sent, and its two operands together. -/
def Obligations.LatestVelocityIsSent : Prop :=
  ∀ (s : State) (l1 a1 l2 a2 : Word),
    isFinite l1 = true → isFinite a1 = true → isFinite l2 = true → isFinite a2 = true →
    s.linkState = .ready → s.busy = false → s.busOpen = true → s.termPending = false → s.ackPending = false → s.cycleActive = false →
    s.turns = [.host ⟨0x2, l1, a1⟩, .host ⟨0x2, l2, a2⟩, .issue] →
    ∃ t, Host.Core.run Sys2Proof.core 3 s = .next t ∧ t.busy = true ∧ t.slotValid = false ∧
      ∀ a, t.tx.read a =
        [0x00, l2.extractLsb' 24 8, l2.extractLsb' 16 8, l2.extractLsb' 8 8, l2.extractLsb' 0 8,
          a2.extractLsb' 24 8, a2.extractLsb' 16 8, a2.extractLsb' 8 8, a2.extractLsb' 0 8].getD a 0x00

/-- 42_link_session.md R247, on the schedule where only the Sequencer, the transport and the probe timer move: with `os` the outcomes
that do not confirm and `o` the one that does, the session is in Handshaking until the completion of exchange number `os.length + 1`,
which enters Ready, and the next exchange is the ACK. -/
def Obligations.HandshakeReachesReadyOnTheConfirmingReply : Prop :=
  ∀ (s : State) (os : List XferOutcome) (o : XferOutcome) (ts : List Turn),
    (∀ x ∈ os, ¬ Claims.Confirms x) → Claims.Confirms o →
    s.linkState = .handshaking → s.busOpen = true → s.busy = false → s.probeWait = false → s.termPending = false →
    s.turns = os.flatMap (fun x => [.issue, .complete x, .probeDelay]) ++ [.issue, .complete o, .issue] ++ ts →
    (∀ j v, j < 3 * os.length + 2 → Host.Core.run Sys2Proof.core j s = .next v → v.linkState = .handshaking) ∧
    ∃ t u, Host.Core.run Sys2Proof.core (3 * os.length + 2) s = .next t ∧ t.linkState = .ready ∧ t.ackPending = true ∧
      t.probeFails = s.probeFails + BitVec.ofNat 32 os.length ∧
      step t = .next u ∧ u.busy = true ∧ ∀ a, u.tx.read a = [s.cfg.opAck].getD a 0x00

/-- 44_shutdown.md R304. First, for every interleaving, as a step lemma: `shutdown_count`, at most 2, goes up by one in exactly the steps
that put a SHUTDOWN frame in flight, and a session leaves ShuttingDown with a count of 2 only. Second, on the schedule where only the
Sequencer and the transport move: a session that takes the termination sends the two frames, whatever becomes of them, and then is
Closed with the bus released. -/
def Obligations.ShutdownSendsTwoFramesAndCloses : Prop :=
  (∀ s t : State, Inv s → step s = .next t → Claims.notReset (nextTurn s) →
    (Claims.SendsShutdown s t → t.shutdownCount.val = s.shutdownCount.val + 1) ∧
    (¬ Claims.SendsShutdown s t → t.shutdownCount = s.shutdownCount) ∧
    (s.linkState = .shuttingDown → t.linkState ≠ .shuttingDown → t.linkState = .closed ∧ t.shutdownCount = 2)) ∧
  ∀ (s : State) (o1 o2 : XferOutcome) (ts : List Turn),
    Inv s → s.busy = false → (s.linkState = .handshaking ∨ s.linkState = .ready) → s.termPending = true →
    s.turns = [.issue, .complete o1, .issue, .complete o2] ++ ts →
    ∃ t1 t2 t3 t4, step s = .next t1 ∧ step t1 = .next t2 ∧ step t2 = .next t3 ∧ step t3 = .next t4 ∧
      t1.busy = true ∧ (∀ a, t1.tx.read a = [s.cfg.opShutdown, s.cfg.shutdownSentinel].getD a 0x00) ∧
      t2.busy = false ∧ t2.linkState = .shuttingDown ∧
      t3.busy = true ∧ (∀ a, t3.tx.read a = [s.cfg.opShutdown, s.cfg.shutdownSentinel].getD a 0x00) ∧
      t4.busy = false ∧ t4.linkState = .closed ∧ t4.busOpen = false ∧ t4.shutdownCount = 2 ∧ t4.turns = ts

/-- 70_reset_and_hazards.md R371, on the schedule where only the Sequencer and the transport move: after a TERMINATE in Handshaking or
Ready, with an exchange in flight or not, at most three exchanges pass before the session is Closed. Where none is in flight the first
completion's turn passes, which is the model's form of a step that is not enabled (log 8). -/
def Obligations.TerminateClosesWithinThreeExchanges : Prop :=
  ∀ (s : State) (a b : Word) (o0 o1 o2 : XferOutcome) (ts : List Turn),
    Inv s → (s.linkState = .handshaking ∨ s.linkState = .ready) →
    s.turns = [.host ⟨0x3, a, b⟩, .complete o0, .issue, .complete o1, .issue, .complete o2] ++ ts →
    ∃ t, Host.Core.run Sys2Proof.core 6 s = .next t ∧ t.linkState = .closed ∧ t.busOpen = false ∧ t.shutdownCount = 2

/-- 44_shutdown.md R305: in ShuttingDown no frame but SHUTDOWN is issued, and SHUTDOWN is issued into no other state. -/
def Obligations.ShutdownFramesOnlyInShuttingDown : Prop :=
  ∀ s t : State, Inv s → step s = .next t → s.busy = false → t.busy = true →
    (s.linkState = .shuttingDown → t.tx.read 0 = s.cfg.opShutdown) ∧
    (t.tx.read 0 = s.cfg.opShutdown → t.linkState = .shuttingDown)

/-- 43_telemetry.md R276: over any run without a reset, from any state, `seq` advances by exactly the number of cycles that finish, and the
finished cycles' events carry consecutive numbers, each the value before its advance. -/
def Obligations.SequenceLaw : Prop :=
  ∀ (n : Nat) (s t : State), n ≤ s.turns.length → (∀ u ∈ s.turns.take n, Claims.notReset u) →
    Host.Core.run Sys2Proof.core n s = .next t →
    ∃ new M, t.events = s.events ++ new ∧
      new.filterMap Claims.finished = (List.range M).map (fun k => s.seq + BitVec.ofNat 32 k) ∧
      t.seq = s.seq + BitVec.ofNat 32 M

/-! ## Arithmetic -/

/-- 43_telemetry.md R260: where both operands are finite the result is the binary32 value nearest the exact product, ties to even; it
overflows to infinity exactly from half a unit past the largest finite value on; its sign is the product's. -/
def Obligations.FmulRoundsToNearestEven : Prop :=
  ∀ a b : Word, isFinite a = true → isFinite b = true →
    signBit (fmul32 a b) = (signBit a ^^ signBit b) ∧
    (isFinite (fmul32 a b) = true →
      ∀ c : Word, isFinite c = true →
        |Claims.value (fmul32 a b) - Claims.value a * Claims.value b| ≤ |Claims.value c - Claims.value a * Claims.value b| ∧
        (|Claims.value (fmul32 a b) - Claims.value a * Claims.value b| = |Claims.value c - Claims.value a * Claims.value b| →
          Claims.value c ≠ Claims.value (fmul32 a b) → (fmul32 a b).getLsbD 0 = false)) ∧
    (isFinite (fmul32 a b) = false ↔ (2 : ℚ) ^ 128 - 2 ^ 103 ≤ |Claims.value a * Claims.value b|) ∧
    (isFinite (fmul32 a b) = false → isInf (fmul32 a b) = true)

/-- 43_telemetry.md R260, R268: the special operands. That infinity times zero and a NaN operand give a NaN is all that is said of
its pattern: `NAN_OUT` is a free value (log 4). -/
def Obligations.FmulSpecialOperands : Prop :=
  ∀ a b : Word,
    (isNaN a = true ∨ isNaN b = true → isNaN (fmul32 a b) = true) ∧
    (isInf a = true ∧ isZero b = true ∨ isZero a = true ∧ isInf b = true → isNaN (fmul32 a b) = true) ∧
    (isInf a = true ∧ isNaN b = false ∧ isZero b = false ∨ isInf b = true ∧ isNaN a = false ∧ isZero a = false →
      isInf (fmul32 a b) = true ∧ signBit (fmul32 a b) = (signBit a ^^ signBit b)) ∧
    (isZero a = true ∧ isFinite b = true ∨ isZero b = true ∧ isFinite a = true →
      isZero (fmul32 a b) = true ∧ signBit (fmul32 a b) = (signBit a ^^ signBit b))

/-- 43_telemetry.md R267 (P1 to P3), R268: what may be assumed of the configuration functions, whatever they are (log 3, log 4). -/
def Obligations.ConfigurationFunctionsMeetTheirProperties : Prop :=
  sin32 0x00000000 = 0x00000000 ∧ sin32 0x80000000 = 0x80000000 ∧ cos32 0x00000000 = 0x3F800000 ∧ cos32 0x80000000 = 0x3F800000 ∧
  ∀ v w : Word,
    (isFinite v = false → isNaN (sin32 v) = true ∧ isNaN (cos32 v) = true) ∧
    (isFinite v = true →
      isFinite (sin32 v) = true ∧ isFinite (cos32 v) = true ∧ |Claims.value (sin32 v)| ≤ 1 ∧ |Claims.value (cos32 v)| ≤ 1) ∧
    isNaN (nanOut v w) = true

/-- 43_telemetry.md R264: the corner cases of the quaternion composer: the headings of either zero, and a non-finite heading; x and y are +0
for every heading. -/
def Obligations.OrientationCornerCases : Prop :=
  composeOrient 0x00000000 = ⟨0x3F800000, 0, 0, 0x00000000⟩ ∧ composeOrient 0x80000000 = ⟨0x3F800000, 0, 0, 0x80000000⟩ ∧
  ∀ h : Word, (composeOrient h).x = 0 ∧ (composeOrient h).y = 0 ∧
    (isFinite h = false → isNaN (composeOrient h).w = true ∧ isNaN (composeOrient h).z = true)

/-! ## Whole runs, of any interleaving -/

/-- 43_telemetry.md R277: a record never mixes two cycles. In every run, of any interleaving, that starts with no cycle active, a step that
emits a record completes the DEAD_RECKONING exchange; the ACCEL, GYRO and POSITION exchanges completed before it, in that order, with
the cycle active and `seq` unchanged all through; and each field of the record is what its own exchange's reply converts to. So a
cycle that failed or was preempted publishes no field. -/
def Obligations.RecordsNeverMixTwoCycles : Prop :=
  ∀ (r : Nat → State) (n : Nat) (new : List Event) (x : TelemetryRecord),
    Inv (r 0) → (r 0).cycleActive = false → (∀ m, m ≤ n → Leads (r m) (r (m + 1))) →
    (r (n + 1)).events = (r n).events ++ new → .record x ∈ new →
    ∃ a g p Ra Rg Rp Rd, a < g ∧ g < p ∧ p < n ∧
      Claims.Completes 0x02 Ra (r a) ∧ Claims.Completes 0x03 Rg (r g) ∧ Claims.Completes 0x04 Rp (r p) ∧
      Claims.Completes 0x05 Rd (r n) ∧
      (∀ m, a ≤ m → m ≤ n → (r m).cycleActive = true ∧ (r m).seq = x.sequence ∧ (r m).cfg = (r n).cfg) ∧
      x.accel = convAccel (r n).cfg.accelUnits (Claims.field Ra 1) (Claims.field Ra 5) (Claims.field Ra 9) ∧
      x.gyro = convGyro (Claims.field Rg 1) (Claims.field Rg 5) (Claims.field Rg 9) ∧
      (x.pose, x.orient) = convPose (Claims.field Rp 1) (Claims.field Rp 5) (Claims.field Rp 9) ∧
      x.deadReck = ⟨Claims.field Rd 1, Claims.field Rd 5⟩

/-- 41_transport.md R187 and 60_exceptions.md R345: what weak fairness gives. In every fair run no exchange hangs: one in flight stays so
until its completion, or a reset, ends it; and the probe delay always ends. -/
def Obligations.FairRunsEndExchangesAndDelays : Prop :=
  ∀ (r : Nat → State) (n : Nat), FairRun r →
    ((r n).busy = true →
      ∃ m, n ≤ m ∧ (∀ k, n ≤ k → k ≤ m → (r k).busy = true) ∧ (r (m + 1)).busy = false ∧
        ((∃ o, nextTurn (r m) = .complete o) ∨ ∃ p, nextTurn (r m) = .reset p)) ∧
    ((r n).probeWait = true → ∃ m, n < m ∧ (r m).probeWait = false)
end

