-- ==== Sys2Proof/Laws/Memory.lean ====
section
/-! SUPPORT. The laws of a frame's bytes and of a frame space: what a read gives after a write, and that storing a frame keeps the
canonical form. -/

namespace Sys2Proof

@[simp] theorem Frame.of_get (f : Nat → Byte) {i : Nat} (h : i < 16) : (Frame.of f).get i = f i := by
  simp [Frame.of, Frame.get, h]

theorem Frame.get_out (F : Frame) {i : Nat} (h : 16 ≤ i) : F.get i = 0x00 := by
  have := F.size
  simp [Frame.get, List.getD_eq_getElem?_getD, List.getElem?_eq_none (by omega : F.bytes.length ≤ i)]

/-- Two frames with the same 16 bytes are the same frame. -/
theorem Frame.ext_get {F G : Frame} (h : ∀ i, i < 16 → F.get i = G.get i) : F = G := by
  cases F with
  | mk fs hf =>
    cases G with
    | mk gs hg =>
      have : fs = gs := by
        apply List.ext_getElem (by omega)
        intro i h1 h2
        have := h i (by omega)
        simpa [Frame.get, List.getD_eq_getElem?_getD, h1, h2] using this
      subst this
      rfl

@[simp] theorem Frame.put_get_same (F : Frame) (i : Nat) (b : Byte) (h : i < 16) : (F.put i b).get i = b := by
  have := F.size
  simp [Frame.put, Frame.get, List.getD_eq_getElem?_getD, this, h]

@[simp] theorem Frame.put_get_ne (F : Frame) {i j : Nat} (b : Byte) (h : i ≠ j) : (F.put i b).get j = F.get j := by
  simp [Frame.put, Frame.get, List.getD_eq_getElem?_getD, List.getElem?_set_ne h]

@[simp] theorem Frame.zero_get (i : Nat) : Frame.zero.get i = 0x00 := by
  by_cases h : i < 16
  · simp [Frame.zero, h]
  · exact Frame.get_out _ (by omega)

namespace Machine

/-- Reading a run of bytes stored from address `k`. -/
theorem Memory.read_ofBytes (bs : List Byte) :
    ∀ k a : Nat, Memory.read (Memory.ofBytes k bs) a = if k ≤ a then bs.getD (a - k) Memory.unlisted else Memory.unlisted := by
  induction bs with
  | nil => intro k a; simp [Memory.ofBytes, Memory.read]
  | cons b bs ih =>
    intro k a
    have key : Memory.read (Memory.ofBytes k (b :: bs)) a
        = if k = a then b else Memory.read (Memory.ofBytes (k + 1) bs) a := by
      by_cases hb : b = Memory.unlisted
      · by_cases hk : k = a
        · subst hk; simp [Memory.ofBytes, hb, ih]
        · simp [Memory.ofBytes, hb, hk]
      · simp [Memory.ofBytes, hb, Memory.read]
    rw [key, ih]
    by_cases h1 : k = a
    · subst h1; simp
    · by_cases h2 : k ≤ a
      · obtain ⟨d, rfl⟩ : ∃ d, a = k + 1 + d := ⟨a - (k + 1), by omega⟩
        have e1 : k + 1 + d - (k + 1) = d := by omega
        have e2 : k + 1 + d - k = d + 1 := by omega
        simp [h1, h2, e1, e2]
      · simp [h1, h2, show ¬ k + 1 ≤ a by omega]

/-- A stored frame reads as its bytes, at every address. -/
@[simp] theorem Memory.read_ofFrame (F : Frame) (a : Nat) : (Memory.ofFrame F).read a = F.get a := by
  simp [Memory.ofFrame, Memory.read_ofBytes, Frame.get, Memory.unlisted]

/-- The frame a space holds after a frame was stored is that frame. -/
@[simp] theorem Memory.toFrame_ofFrame (F : Frame) : (Memory.ofFrame F).toFrame = F :=
  Frame.ext_get fun i h => by simp [Memory.toFrame, h]

theorem Memory.wfFrom_ofBytes (bs : List Byte) :
    ∀ k j : Nat, j ≤ k → k + bs.length ≤ 16 → Memory.wfFrom j (Memory.ofBytes k bs) = true := by
  induction bs with
  | nil => intro k j _ _; simp [Memory.ofBytes, Memory.wfFrom]
  | cons b bs ih =>
    intro k j hj hl
    simp only [List.length_cons] at hl
    by_cases hb : b = Memory.unlisted
    · simpa [Memory.ofBytes, hb] using ih (k + 1) j (by omega) (by omega)
    · simp [Memory.ofBytes, hb, Memory.wfFrom, hj, ih (k + 1) (k + 1) (by omega) (by omega)]
      omega

/-- Storing a frame, the one write a space has, keeps the canonical form. -/
@[simp] theorem Memory.wf_ofFrame (F : Frame) : (Memory.ofFrame F).wf = true :=
  Memory.wfFrom_ofBytes _ _ _ (by omega) (by have := F.size; omega)

/-- A space that lists nothing, as after reset, is in canonical form. -/
@[simp] theorem Memory.wf_nil : Memory.wf [] = true := rfl

end Machine

end Sys2Proof
end

