-- ==== Sys2Proof/Laws/State.lean ====
section
/-! SUPPORT. What each shared update of the state leaves in each field: one lemma per field per update. -/

namespace Sys2Proof.Machine

/-! `respond` -/

@[simp] theorem respond_cfg (r : ErrorCode) (s : State) : (respond r s).cfg = s.cfg := rfl
@[simp] theorem respond_linkState (r : ErrorCode) (s : State) : (respond r s).linkState = s.linkState := rfl
@[simp] theorem respond_busOpen (r : ErrorCode) (s : State) : (respond r s).busOpen = s.busOpen := rfl
@[simp] theorem respond_busy (r : ErrorCode) (s : State) : (respond r s).busy = s.busy := rfl
@[simp] theorem respond_ackPending (r : ErrorCode) (s : State) : (respond r s).ackPending = s.ackPending := rfl
@[simp] theorem respond_probeWait (r : ErrorCode) (s : State) : (respond r s).probeWait = s.probeWait := rfl
@[simp] theorem respond_termPending (r : ErrorCode) (s : State) : (respond r s).termPending = s.termPending := rfl
@[simp] theorem respond_shutdownCount (r : ErrorCode) (s : State) : (respond r s).shutdownCount = s.shutdownCount := rfl
@[simp] theorem respond_slotValid (r : ErrorCode) (s : State) : (respond r s).slotValid = s.slotValid := rfl
@[simp] theorem respond_slotLin (r : ErrorCode) (s : State) : (respond r s).slotLin = s.slotLin := rfl
@[simp] theorem respond_slotAng (r : ErrorCode) (s : State) : (respond r s).slotAng = s.slotAng := rfl
@[simp] theorem respond_pollDue (r : ErrorCode) (s : State) : (respond r s).pollDue = s.pollDue := rfl
@[simp] theorem respond_cycleActive (r : ErrorCode) (s : State) : (respond r s).cycleActive = s.cycleActive := rfl
@[simp] theorem respond_cycleStep (r : ErrorCode) (s : State) : (respond r s).cycleStep = s.cycleStep := rfl
@[simp] theorem respond_tx (r : ErrorCode) (s : State) : (respond r s).tx = s.tx := rfl
@[simp] theorem respond_rx (r : ErrorCode) (s : State) : (respond r s).rx = s.rx := rfl
@[simp] theorem respond_accAccel (r : ErrorCode) (s : State) : (respond r s).accAccel = s.accAccel := rfl
@[simp] theorem respond_accGyro (r : ErrorCode) (s : State) : (respond r s).accGyro = s.accGyro := rfl
@[simp] theorem respond_accPose (r : ErrorCode) (s : State) : (respond r s).accPose = s.accPose := rfl
@[simp] theorem respond_accOrient (r : ErrorCode) (s : State) : (respond r s).accOrient = s.accOrient := rfl
@[simp] theorem respond_accDr (r : ErrorCode) (s : State) : (respond r s).accDr = s.accDr := rfl
@[simp] theorem respond_seq (r : ErrorCode) (s : State) : (respond r s).seq = s.seq := rfl
@[simp] theorem respond_probeFails (r : ErrorCode) (s : State) : (respond r s).probeFails = s.probeFails := rfl
@[simp] theorem respond_events (r : ErrorCode) (s : State) : (respond r s).events = s.events := rfl
@[simp] theorem respond_responses (r : ErrorCode) (s : State) : (respond r s).responses = s.responses ++ [r] := rfl
@[simp] theorem respond_outcome (r : ErrorCode) (s : State) : (respond r s).outcome = s.outcome := rfl
@[simp] theorem respond_turns (r : ErrorCode) (s : State) : (respond r s).turns = s.turns := rfl
@[simp] theorem respond_draws (r : ErrorCode) (s : State) : (respond r s).draws = s.draws := rfl

/-! `emit` -/

@[simp] theorem emit_cfg (e : Event) (s : State) : (emit e s).cfg = s.cfg := rfl
@[simp] theorem emit_linkState (e : Event) (s : State) : (emit e s).linkState = s.linkState := rfl
@[simp] theorem emit_busOpen (e : Event) (s : State) : (emit e s).busOpen = s.busOpen := rfl
@[simp] theorem emit_busy (e : Event) (s : State) : (emit e s).busy = s.busy := rfl
@[simp] theorem emit_ackPending (e : Event) (s : State) : (emit e s).ackPending = s.ackPending := rfl
@[simp] theorem emit_probeWait (e : Event) (s : State) : (emit e s).probeWait = s.probeWait := rfl
@[simp] theorem emit_termPending (e : Event) (s : State) : (emit e s).termPending = s.termPending := rfl
@[simp] theorem emit_shutdownCount (e : Event) (s : State) : (emit e s).shutdownCount = s.shutdownCount := rfl
@[simp] theorem emit_slotValid (e : Event) (s : State) : (emit e s).slotValid = s.slotValid := rfl
@[simp] theorem emit_slotLin (e : Event) (s : State) : (emit e s).slotLin = s.slotLin := rfl
@[simp] theorem emit_slotAng (e : Event) (s : State) : (emit e s).slotAng = s.slotAng := rfl
@[simp] theorem emit_pollDue (e : Event) (s : State) : (emit e s).pollDue = s.pollDue := rfl
@[simp] theorem emit_cycleActive (e : Event) (s : State) : (emit e s).cycleActive = s.cycleActive := rfl
@[simp] theorem emit_cycleStep (e : Event) (s : State) : (emit e s).cycleStep = s.cycleStep := rfl
@[simp] theorem emit_tx (e : Event) (s : State) : (emit e s).tx = s.tx := rfl
@[simp] theorem emit_rx (e : Event) (s : State) : (emit e s).rx = s.rx := rfl
@[simp] theorem emit_accAccel (e : Event) (s : State) : (emit e s).accAccel = s.accAccel := rfl
@[simp] theorem emit_accGyro (e : Event) (s : State) : (emit e s).accGyro = s.accGyro := rfl
@[simp] theorem emit_accPose (e : Event) (s : State) : (emit e s).accPose = s.accPose := rfl
@[simp] theorem emit_accOrient (e : Event) (s : State) : (emit e s).accOrient = s.accOrient := rfl
@[simp] theorem emit_accDr (e : Event) (s : State) : (emit e s).accDr = s.accDr := rfl
@[simp] theorem emit_seq (e : Event) (s : State) : (emit e s).seq = s.seq := rfl
@[simp] theorem emit_probeFails (e : Event) (s : State) : (emit e s).probeFails = s.probeFails := rfl
@[simp] theorem emit_events (e : Event) (s : State) : (emit e s).events = s.events ++ [e] := rfl
@[simp] theorem emit_responses (e : Event) (s : State) : (emit e s).responses = s.responses := rfl
@[simp] theorem emit_outcome (e : Event) (s : State) : (emit e s).outcome = s.outcome := rfl
@[simp] theorem emit_turns (e : Event) (s : State) : (emit e s).turns = s.turns := rfl
@[simp] theorem emit_draws (e : Event) (s : State) : (emit e s).draws = s.draws := rfl

/-! `sendFrame` -/

@[simp] theorem sendFrame_cfg (F : Frame) (s : State) : (sendFrame F s).cfg = s.cfg := rfl
@[simp] theorem sendFrame_linkState (F : Frame) (s : State) : (sendFrame F s).linkState = s.linkState := rfl
@[simp] theorem sendFrame_busOpen (F : Frame) (s : State) : (sendFrame F s).busOpen = s.busOpen := rfl
@[simp] theorem sendFrame_busy (F : Frame) (s : State) : (sendFrame F s).busy = true := rfl
@[simp] theorem sendFrame_ackPending (F : Frame) (s : State) : (sendFrame F s).ackPending = s.ackPending := rfl
@[simp] theorem sendFrame_probeWait (F : Frame) (s : State) : (sendFrame F s).probeWait = s.probeWait := rfl
@[simp] theorem sendFrame_termPending (F : Frame) (s : State) : (sendFrame F s).termPending = s.termPending := rfl
@[simp] theorem sendFrame_shutdownCount (F : Frame) (s : State) : (sendFrame F s).shutdownCount = s.shutdownCount := rfl
@[simp] theorem sendFrame_slotValid (F : Frame) (s : State) : (sendFrame F s).slotValid = s.slotValid := rfl
@[simp] theorem sendFrame_slotLin (F : Frame) (s : State) : (sendFrame F s).slotLin = s.slotLin := rfl
@[simp] theorem sendFrame_slotAng (F : Frame) (s : State) : (sendFrame F s).slotAng = s.slotAng := rfl
@[simp] theorem sendFrame_pollDue (F : Frame) (s : State) : (sendFrame F s).pollDue = s.pollDue := rfl
@[simp] theorem sendFrame_cycleActive (F : Frame) (s : State) : (sendFrame F s).cycleActive = s.cycleActive := rfl
@[simp] theorem sendFrame_cycleStep (F : Frame) (s : State) : (sendFrame F s).cycleStep = s.cycleStep := rfl
@[simp] theorem sendFrame_tx (F : Frame) (s : State) : (sendFrame F s).tx = Memory.ofFrame F := rfl
@[simp] theorem sendFrame_rx (F : Frame) (s : State) : (sendFrame F s).rx = s.rx := rfl
@[simp] theorem sendFrame_accAccel (F : Frame) (s : State) : (sendFrame F s).accAccel = s.accAccel := rfl
@[simp] theorem sendFrame_accGyro (F : Frame) (s : State) : (sendFrame F s).accGyro = s.accGyro := rfl
@[simp] theorem sendFrame_accPose (F : Frame) (s : State) : (sendFrame F s).accPose = s.accPose := rfl
@[simp] theorem sendFrame_accOrient (F : Frame) (s : State) : (sendFrame F s).accOrient = s.accOrient := rfl
@[simp] theorem sendFrame_accDr (F : Frame) (s : State) : (sendFrame F s).accDr = s.accDr := rfl
@[simp] theorem sendFrame_seq (F : Frame) (s : State) : (sendFrame F s).seq = s.seq := rfl
@[simp] theorem sendFrame_probeFails (F : Frame) (s : State) : (sendFrame F s).probeFails = s.probeFails := rfl
@[simp] theorem sendFrame_events (F : Frame) (s : State) : (sendFrame F s).events = s.events := rfl
@[simp] theorem sendFrame_responses (F : Frame) (s : State) : (sendFrame F s).responses = s.responses := rfl
@[simp] theorem sendFrame_outcome (F : Frame) (s : State) : (sendFrame F s).outcome = s.outcome := rfl
@[simp] theorem sendFrame_turns (F : Frame) (s : State) : (sendFrame F s).turns = s.turns := rfl
@[simp] theorem sendFrame_draws (F : Frame) (s : State) : (sendFrame F s).draws = s.draws := rfl

/-! `deliver` -/

@[simp] theorem deliver_cfg (s : State) : (deliver s).cfg = s.cfg := rfl
@[simp] theorem deliver_linkState (s : State) : (deliver s).linkState = s.linkState := rfl
@[simp] theorem deliver_busOpen (s : State) : (deliver s).busOpen = s.busOpen := rfl
@[simp] theorem deliver_busy (s : State) : (deliver s).busy = false := rfl
@[simp] theorem deliver_ackPending (s : State) : (deliver s).ackPending = s.ackPending := rfl
@[simp] theorem deliver_probeWait (s : State) : (deliver s).probeWait = s.probeWait := rfl
@[simp] theorem deliver_termPending (s : State) : (deliver s).termPending = s.termPending := rfl
@[simp] theorem deliver_shutdownCount (s : State) : (deliver s).shutdownCount = s.shutdownCount := rfl
@[simp] theorem deliver_slotValid (s : State) : (deliver s).slotValid = s.slotValid := rfl
@[simp] theorem deliver_slotLin (s : State) : (deliver s).slotLin = s.slotLin := rfl
@[simp] theorem deliver_slotAng (s : State) : (deliver s).slotAng = s.slotAng := rfl
@[simp] theorem deliver_pollDue (s : State) : (deliver s).pollDue = s.pollDue := rfl
@[simp] theorem deliver_cycleActive (s : State) : (deliver s).cycleActive = s.cycleActive := rfl
@[simp] theorem deliver_cycleStep (s : State) : (deliver s).cycleStep = s.cycleStep := rfl
@[simp] theorem deliver_tx (s : State) : (deliver s).tx = s.tx := rfl
@[simp] theorem deliver_accAccel (s : State) : (deliver s).accAccel = s.accAccel := rfl
@[simp] theorem deliver_accGyro (s : State) : (deliver s).accGyro = s.accGyro := rfl
@[simp] theorem deliver_accPose (s : State) : (deliver s).accPose = s.accPose := rfl
@[simp] theorem deliver_accOrient (s : State) : (deliver s).accOrient = s.accOrient := rfl
@[simp] theorem deliver_accDr (s : State) : (deliver s).accDr = s.accDr := rfl
@[simp] theorem deliver_seq (s : State) : (deliver s).seq = s.seq := rfl
@[simp] theorem deliver_probeFails (s : State) : (deliver s).probeFails = s.probeFails := rfl
@[simp] theorem deliver_events (s : State) : (deliver s).events = s.events := rfl
@[simp] theorem deliver_responses (s : State) : (deliver s).responses = s.responses := rfl
@[simp] theorem deliver_outcome (s : State) : (deliver s).outcome = s.outcome := rfl
@[simp] theorem deliver_turns (s : State) : (deliver s).turns = s.turns := rfl

/-! `seqAdvance` -/

@[simp] theorem seqAdvance_cfg (s : State) : (seqAdvance s).cfg = s.cfg := rfl
@[simp] theorem seqAdvance_linkState (s : State) : (seqAdvance s).linkState = s.linkState := rfl
@[simp] theorem seqAdvance_busOpen (s : State) : (seqAdvance s).busOpen = s.busOpen := rfl
@[simp] theorem seqAdvance_busy (s : State) : (seqAdvance s).busy = s.busy := rfl
@[simp] theorem seqAdvance_ackPending (s : State) : (seqAdvance s).ackPending = s.ackPending := rfl
@[simp] theorem seqAdvance_probeWait (s : State) : (seqAdvance s).probeWait = s.probeWait := rfl
@[simp] theorem seqAdvance_termPending (s : State) : (seqAdvance s).termPending = s.termPending := rfl
@[simp] theorem seqAdvance_shutdownCount (s : State) : (seqAdvance s).shutdownCount = s.shutdownCount := rfl
@[simp] theorem seqAdvance_slotValid (s : State) : (seqAdvance s).slotValid = s.slotValid := rfl
@[simp] theorem seqAdvance_slotLin (s : State) : (seqAdvance s).slotLin = s.slotLin := rfl
@[simp] theorem seqAdvance_slotAng (s : State) : (seqAdvance s).slotAng = s.slotAng := rfl
@[simp] theorem seqAdvance_pollDue (s : State) : (seqAdvance s).pollDue = s.pollDue := rfl
@[simp] theorem seqAdvance_cycleActive (s : State) : (seqAdvance s).cycleActive = s.cycleActive := rfl
@[simp] theorem seqAdvance_cycleStep (s : State) : (seqAdvance s).cycleStep = s.cycleStep := rfl
@[simp] theorem seqAdvance_tx (s : State) : (seqAdvance s).tx = s.tx := rfl
@[simp] theorem seqAdvance_rx (s : State) : (seqAdvance s).rx = s.rx := rfl
@[simp] theorem seqAdvance_accAccel (s : State) : (seqAdvance s).accAccel = s.accAccel := rfl
@[simp] theorem seqAdvance_accGyro (s : State) : (seqAdvance s).accGyro = s.accGyro := rfl
@[simp] theorem seqAdvance_accPose (s : State) : (seqAdvance s).accPose = s.accPose := rfl
@[simp] theorem seqAdvance_accOrient (s : State) : (seqAdvance s).accOrient = s.accOrient := rfl
@[simp] theorem seqAdvance_accDr (s : State) : (seqAdvance s).accDr = s.accDr := rfl
@[simp] theorem seqAdvance_seq (s : State) : (seqAdvance s).seq = s.seq + 1 := rfl
@[simp] theorem seqAdvance_probeFails (s : State) : (seqAdvance s).probeFails = s.probeFails := rfl
@[simp] theorem seqAdvance_events (s : State) : (seqAdvance s).events = s.events := rfl
@[simp] theorem seqAdvance_responses (s : State) : (seqAdvance s).responses = s.responses := rfl
@[simp] theorem seqAdvance_outcome (s : State) : (seqAdvance s).outcome = s.outcome := rfl
@[simp] theorem seqAdvance_turns (s : State) : (seqAdvance s).turns = s.turns := rfl
@[simp] theorem seqAdvance_draws (s : State) : (seqAdvance s).draws = s.draws := rfl

/-! `closeCycle` -/

@[simp] theorem closeCycle_cfg (s : State) : (closeCycle s).cfg = s.cfg := rfl
@[simp] theorem closeCycle_linkState (s : State) : (closeCycle s).linkState = s.linkState := rfl
@[simp] theorem closeCycle_busOpen (s : State) : (closeCycle s).busOpen = s.busOpen := rfl
@[simp] theorem closeCycle_busy (s : State) : (closeCycle s).busy = s.busy := rfl
@[simp] theorem closeCycle_ackPending (s : State) : (closeCycle s).ackPending = s.ackPending := rfl
@[simp] theorem closeCycle_probeWait (s : State) : (closeCycle s).probeWait = s.probeWait := rfl
@[simp] theorem closeCycle_termPending (s : State) : (closeCycle s).termPending = s.termPending := rfl
@[simp] theorem closeCycle_shutdownCount (s : State) : (closeCycle s).shutdownCount = s.shutdownCount := rfl
@[simp] theorem closeCycle_slotValid (s : State) : (closeCycle s).slotValid = s.slotValid := rfl
@[simp] theorem closeCycle_slotLin (s : State) : (closeCycle s).slotLin = s.slotLin := rfl
@[simp] theorem closeCycle_slotAng (s : State) : (closeCycle s).slotAng = s.slotAng := rfl
@[simp] theorem closeCycle_pollDue (s : State) : (closeCycle s).pollDue = s.pollDue := rfl
@[simp] theorem closeCycle_cycleActive (s : State) : (closeCycle s).cycleActive = false := rfl
@[simp] theorem closeCycle_cycleStep (s : State) : (closeCycle s).cycleStep = .setup := rfl
@[simp] theorem closeCycle_tx (s : State) : (closeCycle s).tx = s.tx := rfl
@[simp] theorem closeCycle_rx (s : State) : (closeCycle s).rx = s.rx := rfl
@[simp] theorem closeCycle_accAccel (s : State) : (closeCycle s).accAccel = s.accAccel := rfl
@[simp] theorem closeCycle_accGyro (s : State) : (closeCycle s).accGyro = s.accGyro := rfl
@[simp] theorem closeCycle_accPose (s : State) : (closeCycle s).accPose = s.accPose := rfl
@[simp] theorem closeCycle_accOrient (s : State) : (closeCycle s).accOrient = s.accOrient := rfl
@[simp] theorem closeCycle_accDr (s : State) : (closeCycle s).accDr = s.accDr := rfl
@[simp] theorem closeCycle_seq (s : State) : (closeCycle s).seq = s.seq := rfl
@[simp] theorem closeCycle_probeFails (s : State) : (closeCycle s).probeFails = s.probeFails := rfl
@[simp] theorem closeCycle_events (s : State) : (closeCycle s).events = s.events := rfl
@[simp] theorem closeCycle_responses (s : State) : (closeCycle s).responses = s.responses := rfl
@[simp] theorem closeCycle_outcome (s : State) : (closeCycle s).outcome = s.outcome := rfl
@[simp] theorem closeCycle_turns (s : State) : (closeCycle s).turns = s.turns := rfl
@[simp] theorem closeCycle_draws (s : State) : (closeCycle s).draws = s.draws := rfl

/-! `finishCycleOk` -/

@[simp] theorem finishCycleOk_cfg (s : State) : (finishCycleOk s).cfg = s.cfg := rfl
@[simp] theorem finishCycleOk_linkState (s : State) : (finishCycleOk s).linkState = s.linkState := rfl
@[simp] theorem finishCycleOk_busOpen (s : State) : (finishCycleOk s).busOpen = s.busOpen := rfl
@[simp] theorem finishCycleOk_busy (s : State) : (finishCycleOk s).busy = s.busy := rfl
@[simp] theorem finishCycleOk_ackPending (s : State) : (finishCycleOk s).ackPending = s.ackPending := rfl
@[simp] theorem finishCycleOk_probeWait (s : State) : (finishCycleOk s).probeWait = s.probeWait := rfl
@[simp] theorem finishCycleOk_termPending (s : State) : (finishCycleOk s).termPending = s.termPending := rfl
@[simp] theorem finishCycleOk_shutdownCount (s : State) : (finishCycleOk s).shutdownCount = s.shutdownCount := rfl
@[simp] theorem finishCycleOk_slotValid (s : State) : (finishCycleOk s).slotValid = s.slotValid := rfl
@[simp] theorem finishCycleOk_slotLin (s : State) : (finishCycleOk s).slotLin = s.slotLin := rfl
@[simp] theorem finishCycleOk_slotAng (s : State) : (finishCycleOk s).slotAng = s.slotAng := rfl
@[simp] theorem finishCycleOk_pollDue (s : State) : (finishCycleOk s).pollDue = s.pollDue := rfl
@[simp] theorem finishCycleOk_cycleActive (s : State) : (finishCycleOk s).cycleActive = false := rfl
@[simp] theorem finishCycleOk_cycleStep (s : State) : (finishCycleOk s).cycleStep = .setup := rfl
@[simp] theorem finishCycleOk_tx (s : State) : (finishCycleOk s).tx = s.tx := rfl
@[simp] theorem finishCycleOk_rx (s : State) : (finishCycleOk s).rx = s.rx := rfl
@[simp] theorem finishCycleOk_accAccel (s : State) : (finishCycleOk s).accAccel = s.accAccel := rfl
@[simp] theorem finishCycleOk_accGyro (s : State) : (finishCycleOk s).accGyro = s.accGyro := rfl
@[simp] theorem finishCycleOk_accPose (s : State) : (finishCycleOk s).accPose = s.accPose := rfl
@[simp] theorem finishCycleOk_accOrient (s : State) : (finishCycleOk s).accOrient = s.accOrient := rfl
@[simp] theorem finishCycleOk_accDr (s : State) : (finishCycleOk s).accDr = s.accDr := rfl
@[simp] theorem finishCycleOk_seq (s : State) : (finishCycleOk s).seq = s.seq + 1 := rfl
@[simp] theorem finishCycleOk_probeFails (s : State) : (finishCycleOk s).probeFails = s.probeFails := rfl
@[simp] theorem finishCycleOk_events (s : State) : (finishCycleOk s).events = s.events ++ [.record (recordOf s)] := rfl
@[simp] theorem finishCycleOk_responses (s : State) : (finishCycleOk s).responses = s.responses := rfl
@[simp] theorem finishCycleOk_outcome (s : State) : (finishCycleOk s).outcome = s.outcome := rfl
@[simp] theorem finishCycleOk_turns (s : State) : (finishCycleOk s).turns = s.turns := rfl
@[simp] theorem finishCycleOk_draws (s : State) : (finishCycleOk s).draws = s.draws := rfl

/-! `finishCycleFailed` -/

@[simp] theorem finishCycleFailed_cfg (r : ErrorCode) (s : State) : (finishCycleFailed r s).cfg = s.cfg := rfl
@[simp] theorem finishCycleFailed_linkState (r : ErrorCode) (s : State) : (finishCycleFailed r s).linkState = s.linkState := rfl
@[simp] theorem finishCycleFailed_busOpen (r : ErrorCode) (s : State) : (finishCycleFailed r s).busOpen = s.busOpen := rfl
@[simp] theorem finishCycleFailed_busy (r : ErrorCode) (s : State) : (finishCycleFailed r s).busy = s.busy := rfl
@[simp] theorem finishCycleFailed_ackPending (r : ErrorCode) (s : State) : (finishCycleFailed r s).ackPending = s.ackPending := rfl
@[simp] theorem finishCycleFailed_probeWait (r : ErrorCode) (s : State) : (finishCycleFailed r s).probeWait = s.probeWait := rfl
@[simp] theorem finishCycleFailed_termPending (r : ErrorCode) (s : State) : (finishCycleFailed r s).termPending = s.termPending := rfl
@[simp] theorem finishCycleFailed_shutdownCount (r : ErrorCode) (s : State) : (finishCycleFailed r s).shutdownCount = s.shutdownCount := rfl
@[simp] theorem finishCycleFailed_slotValid (r : ErrorCode) (s : State) : (finishCycleFailed r s).slotValid = s.slotValid := rfl
@[simp] theorem finishCycleFailed_slotLin (r : ErrorCode) (s : State) : (finishCycleFailed r s).slotLin = s.slotLin := rfl
@[simp] theorem finishCycleFailed_slotAng (r : ErrorCode) (s : State) : (finishCycleFailed r s).slotAng = s.slotAng := rfl
@[simp] theorem finishCycleFailed_pollDue (r : ErrorCode) (s : State) : (finishCycleFailed r s).pollDue = s.pollDue := rfl
@[simp] theorem finishCycleFailed_cycleActive (r : ErrorCode) (s : State) : (finishCycleFailed r s).cycleActive = false := rfl
@[simp] theorem finishCycleFailed_cycleStep (r : ErrorCode) (s : State) : (finishCycleFailed r s).cycleStep = .setup := rfl
@[simp] theorem finishCycleFailed_tx (r : ErrorCode) (s : State) : (finishCycleFailed r s).tx = s.tx := rfl
@[simp] theorem finishCycleFailed_rx (r : ErrorCode) (s : State) : (finishCycleFailed r s).rx = s.rx := rfl
@[simp] theorem finishCycleFailed_accAccel (r : ErrorCode) (s : State) : (finishCycleFailed r s).accAccel = s.accAccel := rfl
@[simp] theorem finishCycleFailed_accGyro (r : ErrorCode) (s : State) : (finishCycleFailed r s).accGyro = s.accGyro := rfl
@[simp] theorem finishCycleFailed_accPose (r : ErrorCode) (s : State) : (finishCycleFailed r s).accPose = s.accPose := rfl
@[simp] theorem finishCycleFailed_accOrient (r : ErrorCode) (s : State) : (finishCycleFailed r s).accOrient = s.accOrient := rfl
@[simp] theorem finishCycleFailed_accDr (r : ErrorCode) (s : State) : (finishCycleFailed r s).accDr = s.accDr := rfl
@[simp] theorem finishCycleFailed_seq (r : ErrorCode) (s : State) : (finishCycleFailed r s).seq = s.seq + 1 := rfl
@[simp] theorem finishCycleFailed_probeFails (r : ErrorCode) (s : State) : (finishCycleFailed r s).probeFails = s.probeFails := rfl
@[simp] theorem finishCycleFailed_events (r : ErrorCode) (s : State) : (finishCycleFailed r s).events = s.events ++ [.cycleError s.seq r] := rfl
@[simp] theorem finishCycleFailed_responses (r : ErrorCode) (s : State) : (finishCycleFailed r s).responses = s.responses := rfl
@[simp] theorem finishCycleFailed_outcome (r : ErrorCode) (s : State) : (finishCycleFailed r s).outcome = s.outcome := rfl
@[simp] theorem finishCycleFailed_turns (r : ErrorCode) (s : State) : (finishCycleFailed r s).turns = s.turns := rfl
@[simp] theorem finishCycleFailed_draws (r : ErrorCode) (s : State) : (finishCycleFailed r s).draws = s.draws := rfl

/-! `sensorFail` -/

@[simp] theorem sensorFail_cfg (op : Byte) (e : XferError) (s : State) : (sensorFail op e s).cfg = s.cfg := rfl
@[simp] theorem sensorFail_linkState (op : Byte) (e : XferError) (s : State) : (sensorFail op e s).linkState = s.linkState := rfl
@[simp] theorem sensorFail_busOpen (op : Byte) (e : XferError) (s : State) : (sensorFail op e s).busOpen = s.busOpen := rfl
@[simp] theorem sensorFail_busy (op : Byte) (e : XferError) (s : State) : (sensorFail op e s).busy = s.busy := rfl
@[simp] theorem sensorFail_ackPending (op : Byte) (e : XferError) (s : State) : (sensorFail op e s).ackPending = s.ackPending := rfl
@[simp] theorem sensorFail_probeWait (op : Byte) (e : XferError) (s : State) : (sensorFail op e s).probeWait = s.probeWait := rfl
@[simp] theorem sensorFail_termPending (op : Byte) (e : XferError) (s : State) : (sensorFail op e s).termPending = s.termPending := rfl
@[simp] theorem sensorFail_shutdownCount (op : Byte) (e : XferError) (s : State) : (sensorFail op e s).shutdownCount = s.shutdownCount := rfl
@[simp] theorem sensorFail_slotValid (op : Byte) (e : XferError) (s : State) : (sensorFail op e s).slotValid = s.slotValid := rfl
@[simp] theorem sensorFail_slotLin (op : Byte) (e : XferError) (s : State) : (sensorFail op e s).slotLin = s.slotLin := rfl
@[simp] theorem sensorFail_slotAng (op : Byte) (e : XferError) (s : State) : (sensorFail op e s).slotAng = s.slotAng := rfl
@[simp] theorem sensorFail_pollDue (op : Byte) (e : XferError) (s : State) : (sensorFail op e s).pollDue = s.pollDue := rfl
@[simp] theorem sensorFail_cycleActive (op : Byte) (e : XferError) (s : State) : (sensorFail op e s).cycleActive = false := rfl
@[simp] theorem sensorFail_cycleStep (op : Byte) (e : XferError) (s : State) : (sensorFail op e s).cycleStep = .setup := rfl
@[simp] theorem sensorFail_tx (op : Byte) (e : XferError) (s : State) : (sensorFail op e s).tx = s.tx := rfl
@[simp] theorem sensorFail_rx (op : Byte) (e : XferError) (s : State) : (sensorFail op e s).rx = s.rx := rfl
@[simp] theorem sensorFail_accAccel (op : Byte) (e : XferError) (s : State) : (sensorFail op e s).accAccel = s.accAccel := rfl
@[simp] theorem sensorFail_accGyro (op : Byte) (e : XferError) (s : State) : (sensorFail op e s).accGyro = s.accGyro := rfl
@[simp] theorem sensorFail_accPose (op : Byte) (e : XferError) (s : State) : (sensorFail op e s).accPose = s.accPose := rfl
@[simp] theorem sensorFail_accOrient (op : Byte) (e : XferError) (s : State) : (sensorFail op e s).accOrient = s.accOrient := rfl
@[simp] theorem sensorFail_accDr (op : Byte) (e : XferError) (s : State) : (sensorFail op e s).accDr = s.accDr := rfl
@[simp] theorem sensorFail_seq (op : Byte) (e : XferError) (s : State) : (sensorFail op e s).seq = s.seq + 1 := rfl
@[simp] theorem sensorFail_probeFails (op : Byte) (e : XferError) (s : State) : (sensorFail op e s).probeFails = s.probeFails := rfl
@[simp] theorem sensorFail_events (op : Byte) (e : XferError) (s : State) : (sensorFail op e s).events = s.events ++ [.xferError op e.errorCode] ++ [.cycleError s.seq e.errorCode] := rfl
@[simp] theorem sensorFail_responses (op : Byte) (e : XferError) (s : State) : (sensorFail op e s).responses = s.responses := rfl
@[simp] theorem sensorFail_outcome (op : Byte) (e : XferError) (s : State) : (sensorFail op e s).outcome = s.outcome := rfl
@[simp] theorem sensorFail_turns (op : Byte) (e : XferError) (s : State) : (sensorFail op e s).turns = s.turns := rfl
@[simp] theorem sensorFail_draws (op : Byte) (e : XferError) (s : State) : (sensorFail op e s).draws = s.draws := rfl

/-! `surfaceError` -/

@[simp] theorem surfaceError_cfg (op : Byte) (s : State) : (surfaceError op s).cfg = s.cfg := rfl
@[simp] theorem surfaceError_linkState (op : Byte) (s : State) : (surfaceError op s).linkState = s.linkState := rfl
@[simp] theorem surfaceError_busOpen (op : Byte) (s : State) : (surfaceError op s).busOpen = s.busOpen := rfl
@[simp] theorem surfaceError_busy (op : Byte) (s : State) : (surfaceError op s).busy = s.busy := rfl
@[simp] theorem surfaceError_ackPending (op : Byte) (s : State) : (surfaceError op s).ackPending = s.ackPending := rfl
@[simp] theorem surfaceError_probeWait (op : Byte) (s : State) : (surfaceError op s).probeWait = s.probeWait := rfl
@[simp] theorem surfaceError_termPending (op : Byte) (s : State) : (surfaceError op s).termPending = s.termPending := rfl
@[simp] theorem surfaceError_shutdownCount (op : Byte) (s : State) : (surfaceError op s).shutdownCount = s.shutdownCount := rfl
@[simp] theorem surfaceError_slotValid (op : Byte) (s : State) : (surfaceError op s).slotValid = s.slotValid := rfl
@[simp] theorem surfaceError_slotLin (op : Byte) (s : State) : (surfaceError op s).slotLin = s.slotLin := rfl
@[simp] theorem surfaceError_slotAng (op : Byte) (s : State) : (surfaceError op s).slotAng = s.slotAng := rfl
@[simp] theorem surfaceError_pollDue (op : Byte) (s : State) : (surfaceError op s).pollDue = s.pollDue := rfl
@[simp] theorem surfaceError_cycleActive (op : Byte) (s : State) : (surfaceError op s).cycleActive = s.cycleActive := rfl
@[simp] theorem surfaceError_cycleStep (op : Byte) (s : State) : (surfaceError op s).cycleStep = s.cycleStep := rfl
@[simp] theorem surfaceError_tx (op : Byte) (s : State) : (surfaceError op s).tx = s.tx := rfl
@[simp] theorem surfaceError_rx (op : Byte) (s : State) : (surfaceError op s).rx = s.rx := rfl
@[simp] theorem surfaceError_accAccel (op : Byte) (s : State) : (surfaceError op s).accAccel = s.accAccel := rfl
@[simp] theorem surfaceError_accGyro (op : Byte) (s : State) : (surfaceError op s).accGyro = s.accGyro := rfl
@[simp] theorem surfaceError_accPose (op : Byte) (s : State) : (surfaceError op s).accPose = s.accPose := rfl
@[simp] theorem surfaceError_accOrient (op : Byte) (s : State) : (surfaceError op s).accOrient = s.accOrient := rfl
@[simp] theorem surfaceError_accDr (op : Byte) (s : State) : (surfaceError op s).accDr = s.accDr := rfl
@[simp] theorem surfaceError_seq (op : Byte) (s : State) : (surfaceError op s).seq = s.seq := rfl
@[simp] theorem surfaceError_probeFails (op : Byte) (s : State) : (surfaceError op s).probeFails = s.probeFails := rfl
@[simp] theorem surfaceError_responses (op : Byte) (s : State) : (surfaceError op s).responses = s.responses := rfl
@[simp] theorem surfaceError_outcome (op : Byte) (s : State) : (surfaceError op s).outcome = s.outcome := rfl
@[simp] theorem surfaceError_turns (op : Byte) (s : State) : (surfaceError op s).turns = s.turns := rfl
@[simp] theorem surfaceError_draws (op : Byte) (s : State) : (surfaceError op s).draws = s.draws := rfl

/-! `reportProbeStall` -/

@[simp] theorem reportProbeStall_cfg (s : State) : (reportProbeStall s).cfg = s.cfg := rfl
@[simp] theorem reportProbeStall_linkState (s : State) : (reportProbeStall s).linkState = s.linkState := rfl
@[simp] theorem reportProbeStall_busOpen (s : State) : (reportProbeStall s).busOpen = s.busOpen := rfl
@[simp] theorem reportProbeStall_busy (s : State) : (reportProbeStall s).busy = s.busy := rfl
@[simp] theorem reportProbeStall_ackPending (s : State) : (reportProbeStall s).ackPending = s.ackPending := rfl
@[simp] theorem reportProbeStall_probeWait (s : State) : (reportProbeStall s).probeWait = s.probeWait := rfl
@[simp] theorem reportProbeStall_termPending (s : State) : (reportProbeStall s).termPending = s.termPending := rfl
@[simp] theorem reportProbeStall_shutdownCount (s : State) : (reportProbeStall s).shutdownCount = s.shutdownCount := rfl
@[simp] theorem reportProbeStall_slotValid (s : State) : (reportProbeStall s).slotValid = s.slotValid := rfl
@[simp] theorem reportProbeStall_slotLin (s : State) : (reportProbeStall s).slotLin = s.slotLin := rfl
@[simp] theorem reportProbeStall_slotAng (s : State) : (reportProbeStall s).slotAng = s.slotAng := rfl
@[simp] theorem reportProbeStall_pollDue (s : State) : (reportProbeStall s).pollDue = s.pollDue := rfl
@[simp] theorem reportProbeStall_cycleActive (s : State) : (reportProbeStall s).cycleActive = s.cycleActive := rfl
@[simp] theorem reportProbeStall_cycleStep (s : State) : (reportProbeStall s).cycleStep = s.cycleStep := rfl
@[simp] theorem reportProbeStall_tx (s : State) : (reportProbeStall s).tx = s.tx := rfl
@[simp] theorem reportProbeStall_rx (s : State) : (reportProbeStall s).rx = s.rx := rfl
@[simp] theorem reportProbeStall_accAccel (s : State) : (reportProbeStall s).accAccel = s.accAccel := rfl
@[simp] theorem reportProbeStall_accGyro (s : State) : (reportProbeStall s).accGyro = s.accGyro := rfl
@[simp] theorem reportProbeStall_accPose (s : State) : (reportProbeStall s).accPose = s.accPose := rfl
@[simp] theorem reportProbeStall_accOrient (s : State) : (reportProbeStall s).accOrient = s.accOrient := rfl
@[simp] theorem reportProbeStall_accDr (s : State) : (reportProbeStall s).accDr = s.accDr := rfl
@[simp] theorem reportProbeStall_seq (s : State) : (reportProbeStall s).seq = s.seq := rfl
@[simp] theorem reportProbeStall_probeFails (s : State) : (reportProbeStall s).probeFails = s.probeFails := rfl
@[simp] theorem reportProbeStall_responses (s : State) : (reportProbeStall s).responses = s.responses := rfl
@[simp] theorem reportProbeStall_outcome (s : State) : (reportProbeStall s).outcome = s.outcome := rfl
@[simp] theorem reportProbeStall_turns (s : State) : (reportProbeStall s).turns = s.turns := rfl
@[simp] theorem reportProbeStall_draws (s : State) : (reportProbeStall s).draws = s.draws := rfl

/-! `startCycle` -/

@[simp] theorem startCycle_cfg (s : State) : (startCycle s).cfg = s.cfg := rfl
@[simp] theorem startCycle_linkState (s : State) : (startCycle s).linkState = s.linkState := rfl
@[simp] theorem startCycle_busOpen (s : State) : (startCycle s).busOpen = s.busOpen := rfl
@[simp] theorem startCycle_busy (s : State) : (startCycle s).busy = s.busy := rfl
@[simp] theorem startCycle_ackPending (s : State) : (startCycle s).ackPending = s.ackPending := rfl
@[simp] theorem startCycle_probeWait (s : State) : (startCycle s).probeWait = s.probeWait := rfl
@[simp] theorem startCycle_termPending (s : State) : (startCycle s).termPending = s.termPending := rfl
@[simp] theorem startCycle_shutdownCount (s : State) : (startCycle s).shutdownCount = s.shutdownCount := rfl
@[simp] theorem startCycle_slotValid (s : State) : (startCycle s).slotValid = s.slotValid := rfl
@[simp] theorem startCycle_slotLin (s : State) : (startCycle s).slotLin = s.slotLin := rfl
@[simp] theorem startCycle_slotAng (s : State) : (startCycle s).slotAng = s.slotAng := rfl
@[simp] theorem startCycle_pollDue (s : State) : (startCycle s).pollDue = false := rfl
@[simp] theorem startCycle_cycleActive (s : State) : (startCycle s).cycleActive = true := rfl
@[simp] theorem startCycle_cycleStep (s : State) : (startCycle s).cycleStep = .setup := rfl
@[simp] theorem startCycle_tx (s : State) : (startCycle s).tx = s.tx := rfl
@[simp] theorem startCycle_rx (s : State) : (startCycle s).rx = s.rx := rfl
@[simp] theorem startCycle_accAccel (s : State) : (startCycle s).accAccel = s.accAccel := rfl
@[simp] theorem startCycle_accGyro (s : State) : (startCycle s).accGyro = s.accGyro := rfl
@[simp] theorem startCycle_accPose (s : State) : (startCycle s).accPose = s.accPose := rfl
@[simp] theorem startCycle_accOrient (s : State) : (startCycle s).accOrient = s.accOrient := rfl
@[simp] theorem startCycle_accDr (s : State) : (startCycle s).accDr = s.accDr := rfl
@[simp] theorem startCycle_seq (s : State) : (startCycle s).seq = s.seq := rfl
@[simp] theorem startCycle_probeFails (s : State) : (startCycle s).probeFails = s.probeFails := rfl
@[simp] theorem startCycle_events (s : State) : (startCycle s).events = s.events := rfl
@[simp] theorem startCycle_responses (s : State) : (startCycle s).responses = s.responses := rfl
@[simp] theorem startCycle_outcome (s : State) : (startCycle s).outcome = s.outcome := rfl
@[simp] theorem startCycle_turns (s : State) : (startCycle s).turns = s.turns := rfl
@[simp] theorem startCycle_draws (s : State) : (startCycle s).draws = s.draws := rfl

/-! `sendShutdown` -/

@[simp] theorem sendShutdown_cfg (s : State) : (sendShutdown s).cfg = s.cfg := rfl
@[simp] theorem sendShutdown_linkState (s : State) : (sendShutdown s).linkState = s.linkState := rfl
@[simp] theorem sendShutdown_busOpen (s : State) : (sendShutdown s).busOpen = s.busOpen := rfl
@[simp] theorem sendShutdown_busy (s : State) : (sendShutdown s).busy = true := rfl
@[simp] theorem sendShutdown_ackPending (s : State) : (sendShutdown s).ackPending = s.ackPending := rfl
@[simp] theorem sendShutdown_probeWait (s : State) : (sendShutdown s).probeWait = s.probeWait := rfl
@[simp] theorem sendShutdown_termPending (s : State) : (sendShutdown s).termPending = s.termPending := rfl
@[simp] theorem sendShutdown_shutdownCount (s : State) : (sendShutdown s).shutdownCount = nextShutdownCount s.shutdownCount := rfl
@[simp] theorem sendShutdown_slotValid (s : State) : (sendShutdown s).slotValid = s.slotValid := rfl
@[simp] theorem sendShutdown_slotLin (s : State) : (sendShutdown s).slotLin = s.slotLin := rfl
@[simp] theorem sendShutdown_slotAng (s : State) : (sendShutdown s).slotAng = s.slotAng := rfl
@[simp] theorem sendShutdown_pollDue (s : State) : (sendShutdown s).pollDue = s.pollDue := rfl
@[simp] theorem sendShutdown_cycleActive (s : State) : (sendShutdown s).cycleActive = s.cycleActive := rfl
@[simp] theorem sendShutdown_cycleStep (s : State) : (sendShutdown s).cycleStep = s.cycleStep := rfl
@[simp] theorem sendShutdown_tx (s : State) : (sendShutdown s).tx = Memory.ofFrame (encodeShutdown s.cfg) := rfl
@[simp] theorem sendShutdown_rx (s : State) : (sendShutdown s).rx = s.rx := rfl
@[simp] theorem sendShutdown_accAccel (s : State) : (sendShutdown s).accAccel = s.accAccel := rfl
@[simp] theorem sendShutdown_accGyro (s : State) : (sendShutdown s).accGyro = s.accGyro := rfl
@[simp] theorem sendShutdown_accPose (s : State) : (sendShutdown s).accPose = s.accPose := rfl
@[simp] theorem sendShutdown_accOrient (s : State) : (sendShutdown s).accOrient = s.accOrient := rfl
@[simp] theorem sendShutdown_accDr (s : State) : (sendShutdown s).accDr = s.accDr := rfl
@[simp] theorem sendShutdown_seq (s : State) : (sendShutdown s).seq = s.seq := rfl
@[simp] theorem sendShutdown_probeFails (s : State) : (sendShutdown s).probeFails = s.probeFails := rfl
@[simp] theorem sendShutdown_events (s : State) : (sendShutdown s).events = s.events := rfl
@[simp] theorem sendShutdown_responses (s : State) : (sendShutdown s).responses = s.responses := rfl
@[simp] theorem sendShutdown_outcome (s : State) : (sendShutdown s).outcome = s.outcome := rfl
@[simp] theorem sendShutdown_turns (s : State) : (sendShutdown s).turns = s.turns := rfl
@[simp] theorem sendShutdown_draws (s : State) : (sendShutdown s).draws = s.draws := rfl

/-! `release` -/

@[simp] theorem release_cfg (s : State) : (release s).cfg = s.cfg := rfl
@[simp] theorem release_linkState (s : State) : (release s).linkState = .closed := rfl
@[simp] theorem release_busOpen (s : State) : (release s).busOpen = false := rfl
@[simp] theorem release_busy (s : State) : (release s).busy = s.busy := rfl
@[simp] theorem release_ackPending (s : State) : (release s).ackPending = s.ackPending := rfl
@[simp] theorem release_probeWait (s : State) : (release s).probeWait = s.probeWait := rfl
@[simp] theorem release_termPending (s : State) : (release s).termPending = s.termPending := rfl
@[simp] theorem release_shutdownCount (s : State) : (release s).shutdownCount = s.shutdownCount := rfl
@[simp] theorem release_slotValid (s : State) : (release s).slotValid = s.slotValid := rfl
@[simp] theorem release_slotLin (s : State) : (release s).slotLin = s.slotLin := rfl
@[simp] theorem release_slotAng (s : State) : (release s).slotAng = s.slotAng := rfl
@[simp] theorem release_pollDue (s : State) : (release s).pollDue = s.pollDue := rfl
@[simp] theorem release_cycleActive (s : State) : (release s).cycleActive = s.cycleActive := rfl
@[simp] theorem release_cycleStep (s : State) : (release s).cycleStep = s.cycleStep := rfl
@[simp] theorem release_tx (s : State) : (release s).tx = s.tx := rfl
@[simp] theorem release_rx (s : State) : (release s).rx = s.rx := rfl
@[simp] theorem release_accAccel (s : State) : (release s).accAccel = s.accAccel := rfl
@[simp] theorem release_accGyro (s : State) : (release s).accGyro = s.accGyro := rfl
@[simp] theorem release_accPose (s : State) : (release s).accPose = s.accPose := rfl
@[simp] theorem release_accOrient (s : State) : (release s).accOrient = s.accOrient := rfl
@[simp] theorem release_accDr (s : State) : (release s).accDr = s.accDr := rfl
@[simp] theorem release_seq (s : State) : (release s).seq = s.seq := rfl
@[simp] theorem release_probeFails (s : State) : (release s).probeFails = s.probeFails := rfl
@[simp] theorem release_events (s : State) : (release s).events = s.events := rfl
@[simp] theorem release_responses (s : State) : (release s).responses = s.responses := rfl
@[simp] theorem release_outcome (s : State) : (release s).outcome = s.outcome := rfl
@[simp] theorem release_turns (s : State) : (release s).turns = s.turns := rfl
@[simp] theorem release_draws (s : State) : (release s).draws = s.draws := rfl

/-! `probeDelayFires` -/

@[simp] theorem probeDelayFires_cfg (s : State) : (probeDelayFires s).cfg = s.cfg := rfl
@[simp] theorem probeDelayFires_linkState (s : State) : (probeDelayFires s).linkState = s.linkState := rfl
@[simp] theorem probeDelayFires_busOpen (s : State) : (probeDelayFires s).busOpen = s.busOpen := rfl
@[simp] theorem probeDelayFires_busy (s : State) : (probeDelayFires s).busy = s.busy := rfl
@[simp] theorem probeDelayFires_ackPending (s : State) : (probeDelayFires s).ackPending = s.ackPending := rfl
@[simp] theorem probeDelayFires_probeWait (s : State) : (probeDelayFires s).probeWait = false := rfl
@[simp] theorem probeDelayFires_termPending (s : State) : (probeDelayFires s).termPending = s.termPending := rfl
@[simp] theorem probeDelayFires_shutdownCount (s : State) : (probeDelayFires s).shutdownCount = s.shutdownCount := rfl
@[simp] theorem probeDelayFires_slotValid (s : State) : (probeDelayFires s).slotValid = s.slotValid := rfl
@[simp] theorem probeDelayFires_slotLin (s : State) : (probeDelayFires s).slotLin = s.slotLin := rfl
@[simp] theorem probeDelayFires_slotAng (s : State) : (probeDelayFires s).slotAng = s.slotAng := rfl
@[simp] theorem probeDelayFires_pollDue (s : State) : (probeDelayFires s).pollDue = s.pollDue := rfl
@[simp] theorem probeDelayFires_cycleActive (s : State) : (probeDelayFires s).cycleActive = s.cycleActive := rfl
@[simp] theorem probeDelayFires_cycleStep (s : State) : (probeDelayFires s).cycleStep = s.cycleStep := rfl
@[simp] theorem probeDelayFires_tx (s : State) : (probeDelayFires s).tx = s.tx := rfl
@[simp] theorem probeDelayFires_rx (s : State) : (probeDelayFires s).rx = s.rx := rfl
@[simp] theorem probeDelayFires_accAccel (s : State) : (probeDelayFires s).accAccel = s.accAccel := rfl
@[simp] theorem probeDelayFires_accGyro (s : State) : (probeDelayFires s).accGyro = s.accGyro := rfl
@[simp] theorem probeDelayFires_accPose (s : State) : (probeDelayFires s).accPose = s.accPose := rfl
@[simp] theorem probeDelayFires_accOrient (s : State) : (probeDelayFires s).accOrient = s.accOrient := rfl
@[simp] theorem probeDelayFires_accDr (s : State) : (probeDelayFires s).accDr = s.accDr := rfl
@[simp] theorem probeDelayFires_seq (s : State) : (probeDelayFires s).seq = s.seq := rfl
@[simp] theorem probeDelayFires_probeFails (s : State) : (probeDelayFires s).probeFails = s.probeFails := rfl
@[simp] theorem probeDelayFires_events (s : State) : (probeDelayFires s).events = s.events := rfl
@[simp] theorem probeDelayFires_responses (s : State) : (probeDelayFires s).responses = s.responses := rfl
@[simp] theorem probeDelayFires_outcome (s : State) : (probeDelayFires s).outcome = s.outcome := rfl
@[simp] theorem probeDelayFires_turns (s : State) : (probeDelayFires s).turns = s.turns := rfl
@[simp] theorem probeDelayFires_draws (s : State) : (probeDelayFires s).draws = s.draws := rfl

/-! `pollTimerFires` -/

@[simp] theorem pollTimerFires_cfg (s : State) : (pollTimerFires s).cfg = s.cfg := rfl
@[simp] theorem pollTimerFires_linkState (s : State) : (pollTimerFires s).linkState = s.linkState := rfl
@[simp] theorem pollTimerFires_busOpen (s : State) : (pollTimerFires s).busOpen = s.busOpen := rfl
@[simp] theorem pollTimerFires_busy (s : State) : (pollTimerFires s).busy = s.busy := rfl
@[simp] theorem pollTimerFires_ackPending (s : State) : (pollTimerFires s).ackPending = s.ackPending := rfl
@[simp] theorem pollTimerFires_probeWait (s : State) : (pollTimerFires s).probeWait = s.probeWait := rfl
@[simp] theorem pollTimerFires_termPending (s : State) : (pollTimerFires s).termPending = s.termPending := rfl
@[simp] theorem pollTimerFires_shutdownCount (s : State) : (pollTimerFires s).shutdownCount = s.shutdownCount := rfl
@[simp] theorem pollTimerFires_slotValid (s : State) : (pollTimerFires s).slotValid = s.slotValid := rfl
@[simp] theorem pollTimerFires_slotLin (s : State) : (pollTimerFires s).slotLin = s.slotLin := rfl
@[simp] theorem pollTimerFires_slotAng (s : State) : (pollTimerFires s).slotAng = s.slotAng := rfl
@[simp] theorem pollTimerFires_pollDue (s : State) : (pollTimerFires s).pollDue = if s.linkState = .ready then true else s.pollDue := rfl
@[simp] theorem pollTimerFires_cycleActive (s : State) : (pollTimerFires s).cycleActive = s.cycleActive := rfl
@[simp] theorem pollTimerFires_cycleStep (s : State) : (pollTimerFires s).cycleStep = s.cycleStep := rfl
@[simp] theorem pollTimerFires_tx (s : State) : (pollTimerFires s).tx = s.tx := rfl
@[simp] theorem pollTimerFires_rx (s : State) : (pollTimerFires s).rx = s.rx := rfl
@[simp] theorem pollTimerFires_accAccel (s : State) : (pollTimerFires s).accAccel = s.accAccel := rfl
@[simp] theorem pollTimerFires_accGyro (s : State) : (pollTimerFires s).accGyro = s.accGyro := rfl
@[simp] theorem pollTimerFires_accPose (s : State) : (pollTimerFires s).accPose = s.accPose := rfl
@[simp] theorem pollTimerFires_accOrient (s : State) : (pollTimerFires s).accOrient = s.accOrient := rfl
@[simp] theorem pollTimerFires_accDr (s : State) : (pollTimerFires s).accDr = s.accDr := rfl
@[simp] theorem pollTimerFires_seq (s : State) : (pollTimerFires s).seq = s.seq := rfl
@[simp] theorem pollTimerFires_probeFails (s : State) : (pollTimerFires s).probeFails = s.probeFails := rfl
@[simp] theorem pollTimerFires_events (s : State) : (pollTimerFires s).events = s.events := rfl
@[simp] theorem pollTimerFires_responses (s : State) : (pollTimerFires s).responses = s.responses := rfl
@[simp] theorem pollTimerFires_outcome (s : State) : (pollTimerFires s).outcome = s.outcome := rfl
@[simp] theorem pollTimerFires_turns (s : State) : (pollTimerFires s).turns = s.turns := rfl
@[simp] theorem pollTimerFires_draws (s : State) : (pollTimerFires s).draws = s.draws := rfl

/-! `resetWith` -/

@[simp] theorem resetWith_cfg (c : Config) (s : State) : (resetWith c s).cfg = c := rfl
@[simp] theorem resetWith_linkState (c : Config) (s : State) : (resetWith c s).linkState = State.reset.linkState := rfl
@[simp] theorem resetWith_busOpen (c : Config) (s : State) : (resetWith c s).busOpen = State.reset.busOpen := rfl
@[simp] theorem resetWith_busy (c : Config) (s : State) : (resetWith c s).busy = State.reset.busy := rfl
@[simp] theorem resetWith_ackPending (c : Config) (s : State) : (resetWith c s).ackPending = State.reset.ackPending := rfl
@[simp] theorem resetWith_probeWait (c : Config) (s : State) : (resetWith c s).probeWait = State.reset.probeWait := rfl
@[simp] theorem resetWith_termPending (c : Config) (s : State) : (resetWith c s).termPending = State.reset.termPending := rfl
@[simp] theorem resetWith_shutdownCount (c : Config) (s : State) : (resetWith c s).shutdownCount = State.reset.shutdownCount := rfl
@[simp] theorem resetWith_slotValid (c : Config) (s : State) : (resetWith c s).slotValid = State.reset.slotValid := rfl
@[simp] theorem resetWith_slotLin (c : Config) (s : State) : (resetWith c s).slotLin = State.reset.slotLin := rfl
@[simp] theorem resetWith_slotAng (c : Config) (s : State) : (resetWith c s).slotAng = State.reset.slotAng := rfl
@[simp] theorem resetWith_pollDue (c : Config) (s : State) : (resetWith c s).pollDue = State.reset.pollDue := rfl
@[simp] theorem resetWith_cycleActive (c : Config) (s : State) : (resetWith c s).cycleActive = State.reset.cycleActive := rfl
@[simp] theorem resetWith_cycleStep (c : Config) (s : State) : (resetWith c s).cycleStep = State.reset.cycleStep := rfl
@[simp] theorem resetWith_tx (c : Config) (s : State) : (resetWith c s).tx = State.reset.tx := rfl
@[simp] theorem resetWith_rx (c : Config) (s : State) : (resetWith c s).rx = State.reset.rx := rfl
@[simp] theorem resetWith_accAccel (c : Config) (s : State) : (resetWith c s).accAccel = State.reset.accAccel := rfl
@[simp] theorem resetWith_accGyro (c : Config) (s : State) : (resetWith c s).accGyro = State.reset.accGyro := rfl
@[simp] theorem resetWith_accPose (c : Config) (s : State) : (resetWith c s).accPose = State.reset.accPose := rfl
@[simp] theorem resetWith_accOrient (c : Config) (s : State) : (resetWith c s).accOrient = State.reset.accOrient := rfl
@[simp] theorem resetWith_accDr (c : Config) (s : State) : (resetWith c s).accDr = State.reset.accDr := rfl
@[simp] theorem resetWith_seq (c : Config) (s : State) : (resetWith c s).seq = State.reset.seq := rfl
@[simp] theorem resetWith_probeFails (c : Config) (s : State) : (resetWith c s).probeFails = State.reset.probeFails := rfl
@[simp] theorem resetWith_events (c : Config) (s : State) : (resetWith c s).events = s.events := rfl
@[simp] theorem resetWith_responses (c : Config) (s : State) : (resetWith c s).responses = s.responses := rfl
@[simp] theorem resetWith_outcome (c : Config) (s : State) : (resetWith c s).outcome = s.outcome := rfl
@[simp] theorem resetWith_turns (c : Config) (s : State) : (resetWith c s).turns = s.turns := rfl
@[simp] theorem resetWith_draws (c : Config) (s : State) : (resetWith c s).draws = s.draws := rfl

/-! `preempt` -/

@[simp] theorem preempt_cfg (s : State) : (preempt s).cfg = s.cfg := by
  cases h : s.cycleActive <;> simp [preempt, h]
@[simp] theorem preempt_linkState (s : State) : (preempt s).linkState = .shuttingDown := rfl
@[simp] theorem preempt_busOpen (s : State) : (preempt s).busOpen = s.busOpen := by
  cases h : s.cycleActive <;> simp [preempt, h]
@[simp] theorem preempt_busy (s : State) : (preempt s).busy = s.busy := by
  cases h : s.cycleActive <;> simp [preempt, h]
@[simp] theorem preempt_ackPending (s : State) : (preempt s).ackPending = false := rfl
@[simp] theorem preempt_probeWait (s : State) : (preempt s).probeWait = false := rfl
@[simp] theorem preempt_termPending (s : State) : (preempt s).termPending = false := rfl
@[simp] theorem preempt_shutdownCount (s : State) : (preempt s).shutdownCount = 0 := rfl
@[simp] theorem preempt_slotValid (s : State) : (preempt s).slotValid = false := rfl
@[simp] theorem preempt_slotLin (s : State) : (preempt s).slotLin = s.slotLin := by
  cases h : s.cycleActive <;> simp [preempt, h]
@[simp] theorem preempt_slotAng (s : State) : (preempt s).slotAng = s.slotAng := by
  cases h : s.cycleActive <;> simp [preempt, h]
@[simp] theorem preempt_pollDue (s : State) : (preempt s).pollDue = false := rfl
@[simp] theorem preempt_cycleActive (s : State) : (preempt s).cycleActive = false := by
  cases h : s.cycleActive <;> simp [preempt, h]
theorem preempt_cycleStep (s : State) :
    (preempt s).cycleStep = if s.cycleActive then .setup else s.cycleStep := by
  cases h : s.cycleActive <;> simp [preempt, h]
@[simp] theorem preempt_tx (s : State) : (preempt s).tx = s.tx := by
  cases h : s.cycleActive <;> simp [preempt, h]
@[simp] theorem preempt_rx (s : State) : (preempt s).rx = s.rx := by
  cases h : s.cycleActive <;> simp [preempt, h]
@[simp] theorem preempt_accAccel (s : State) : (preempt s).accAccel = s.accAccel := by
  cases h : s.cycleActive <;> simp [preempt, h]
@[simp] theorem preempt_accGyro (s : State) : (preempt s).accGyro = s.accGyro := by
  cases h : s.cycleActive <;> simp [preempt, h]
@[simp] theorem preempt_accPose (s : State) : (preempt s).accPose = s.accPose := by
  cases h : s.cycleActive <;> simp [preempt, h]
@[simp] theorem preempt_accOrient (s : State) : (preempt s).accOrient = s.accOrient := by
  cases h : s.cycleActive <;> simp [preempt, h]
@[simp] theorem preempt_accDr (s : State) : (preempt s).accDr = s.accDr := by
  cases h : s.cycleActive <;> simp [preempt, h]
theorem preempt_seq (s : State) :
    (preempt s).seq = if s.cycleActive then s.seq + 1 else s.seq := by
  cases h : s.cycleActive <;> simp [preempt, h]
@[simp] theorem preempt_probeFails (s : State) : (preempt s).probeFails = s.probeFails := by
  cases h : s.cycleActive <;> simp [preempt, h]
theorem preempt_events (s : State) :
    (preempt s).events = if s.cycleActive then s.events ++ [.cycleError s.seq .cyclePreempted] else s.events := by
  cases h : s.cycleActive <;> simp [preempt, h]
@[simp] theorem preempt_responses (s : State) : (preempt s).responses = s.responses := by
  cases h : s.cycleActive <;> simp [preempt, h]
@[simp] theorem preempt_outcome (s : State) : (preempt s).outcome = s.outcome := by
  cases h : s.cycleActive <;> simp [preempt, h]
@[simp] theorem preempt_turns (s : State) : (preempt s).turns = s.turns := by
  cases h : s.cycleActive <;> simp [preempt, h]
@[simp] theorem preempt_draws (s : State) : (preempt s).draws = s.draws := by
  cases h : s.cycleActive <;> simp [preempt, h]

end Sys2Proof.Machine
end

