-- ==== Sys2Proof/Laws/Ops.lean ====
section
/-! SUPPORT. What each shared operation can do, said once: the two cases of an exchange, the Sequencer's choice, a turn, and the
configuration's opcodes. -/

namespace Sys2Proof

/-- What R11 and R370 ask of the parameters. -/
theorem Params.wf_iff (p : Params) :
    p.wf = true ↔ p.opAck ∉ Config.fixedOpcodes ∧ p.opShutdown ∉ Config.fixedOpcodes ∧ p.opAck ≠ p.opShutdown
      ∧ 0 < p.probeDelayUs ∧ 0 < p.pollPeriodUs ∧ 0 < p.xferTimeoutUs := by
  simp [Params.wf, and_assoc]

theorem Params.toConfig_of_wf {p : Params} (h : p.wf = true) : p.toConfig = some ⟨p, h⟩ := by
  simp [Params.toConfig, h]

theorem Params.toConfig_of_not_wf {p : Params} (h : p.wf = false) : p.toConfig = none := by
  simp [Params.toConfig, h]

theorem Config.opAck_fresh (c : Config) : c.opAck ∉ Config.fixedOpcodes := ((Params.wf_iff _).1 c.ok).1

theorem Config.opShutdown_fresh (c : Config) : c.opShutdown ∉ Config.fixedOpcodes := ((Params.wf_iff _).1 c.ok).2.1

theorem Config.opAck_ne_opShutdown (c : Config) : c.opAck ≠ c.opShutdown := ((Params.wf_iff _).1 c.ok).2.2.1

namespace Machine

/-- At a boundary where the frame is selected, its meaning is its issue. -/
theorem exchange_issue {i : Instr} {issue : State → Result} {complete : State → State} {s : State}
    (hb : s.busy = false) (hs : selectedFrame s = some i) : exchange i issue complete s = issue s := by
  simp [exchange, hb, hs]

/-- While the frame is in flight, its meaning is its completion. -/
theorem exchange_complete {i : Instr} {issue : State → Result} {complete : State → State} {s : State}
    (hb : s.busy = true) (ht : txInstr s = .ok i) : exchange i issue complete s = .next (complete (deliver s)) := by
  simp [exchange, hb, ht]

/-- All that a frame's meaning can answer as a next state. -/
theorem exchange_next {i : Instr} {issue : State → Result} {complete : State → State} {s t : State}
    (h : exchange i issue complete s = .next t) :
    (s.busy = false ∧ selectedFrame s = some i ∧ issue s = .next t) ∨
      (s.busy = true ∧ txInstr s = .ok i ∧ t = complete (deliver s)) := by
  unfold exchange at h
  split at h
  · next hb =>
    split at h
    · next ht => exact .inr ⟨hb, ht, (Host.Outcome.next.inj h).symm⟩
    · cases h
  · next hb =>
    split at h
    · next hs => exact .inl ⟨by simpa using hb, hs, h⟩
    · cases h

/-- A selected frame is one that `select`'s action ends by sending, at a boundary with the bus open. -/
theorem selectedFrame_eq_some {s : State} {i : Instr} :
    selectedFrame s = some i ↔ s.busy = false ∧ s.busOpen = true ∧ ∃ a, select s = some a ∧ a.instr s = i := by
  cases hb : s.busy <;> cases ho : s.busOpen <;> simp [selectedFrame, hb, ho]

theorem selectedFrame_eq_none {s : State} :
    selectedFrame s = none ↔ s.busy = true ∨ s.busOpen = false ∨ select s = none := by
  cases hb : s.busy <;> cases ho : s.busOpen <;> simp [selectedFrame, hb, ho]

/-- All that the Sequencer's choice can be, with what it says of the state. -/
theorem select_cases {s : State} {a : Action} (h : select s = some a) :
    (a = .preempt ∧ (s.linkState = .handshaking ∨ s.linkState = .ready) ∧ s.termPending = true) ∨
    (a = .shutdown ∧ s.linkState = .shuttingDown ∧ s.shutdownCount < 2) ∨
    (a = .ping ∧ s.linkState = .handshaking ∧ s.termPending = false ∧ s.probeWait = false) ∨
    (a = .ack ∧ s.linkState = .ready ∧ s.termPending = false ∧ s.ackPending = true) ∨
    (a = .sensor s.cycleStep ∧ s.linkState = .ready ∧ s.termPending = false ∧ s.ackPending = false ∧ s.cycleActive = true) ∨
    (a = .velocity ∧ s.linkState = .ready ∧ s.termPending = false ∧ s.ackPending = false ∧ s.cycleActive = false
      ∧ s.slotValid = true) ∨
    (a = .startCycle ∧ s.linkState = .ready ∧ s.termPending = false ∧ s.ackPending = false ∧ s.cycleActive = false
      ∧ s.slotValid = false ∧ s.pollDue = true) := by
  unfold select at h
  cases hl : s.linkState <;> cases ht : s.termPending <;> cases hp : s.probeWait <;> cases ha : s.ackPending <;>
    cases hc : s.cycleActive <;> cases hv : s.slotValid <;> cases hd : s.pollDue <;>
    simp [hl, ht, hp, ha, hc, hv, hd] at h ⊢ <;> first | exact h.symm | (obtain ⟨h1, h2⟩ := h; exact ⟨h2.symm, h1⟩)

/-- What `TX` holds depends on `TX` and the configuration alone. -/
theorem txInstr_congr {s t : State} (hc : t.cfg = s.cfg) (ht : t.tx = s.tx) : txInstr t = txInstr s := by
  simp [txInstr, hc, ht]

/-- A frame just sent is what `TX` holds. -/
theorem txInstr_sent {s : State} {F : Frame} (h : s.tx = Memory.ofFrame F) : txInstr s = decodeFrame s.cfg F := by
  simp [txInstr, h]

/-- A frame is never read as a host command. -/
theorem decodeFrame_ok {c : Config} {F : Frame} {i : Instr} (h : decodeFrame c F = .ok i) :
    (∃ lin ang, i = .velocity lin ang) ∨ i = .sensorSetup ∨ i = .sensorAccel ∨ i = .sensorGyro ∨ i = .sensorPosition
      ∨ i = .sensorDeadReckoning ∨ i = .ping ∨ i = .ack ∨ i = .shutdown := by
  unfold decodeFrame at h
  simp only at h
  repeat' split at h
  all_goals cases h <;> simp

/-- A step with a listed turn runs that turn with the rest of the list left. -/
theorem step_listed {s : State} {t : Turn} {ts : List Turn} (h : s.turns = t :: ts) :
    step s = runTurn t { s with turns := ts } := by
  simp [step, nextTurn, takeTurn, h]

/-- Taking a turn changes the list and the count of draws alone. -/
theorem takeTurn_eq (s : State) :
    takeTurn s = { s with turns := s.turns.tail, draws := if s.turns = [] then s.draws + 1 else s.draws } := by
  unfold takeTurn
  split <;> simp_all

/-- All that a turn can be. -/
theorem runTurn_next {u : Turn} {s t : State} (h : runTurn u s = .next t) :
    (u = .issue ∧ ((selectedFrame s = none ∧ t = s) ∨ ∃ i, selectedFrame s = some i ∧ exec i s = .next t)) ∨
    (∃ w, u = .host w ∧ exec (decodeHost w) s = .next t) ∨
    (∃ o, u = .complete o ∧ ((s.busy = false ∧ t = s) ∨
      ∃ i, s.busy = true ∧ txInstr s = .ok i ∧ exec i { s with outcome := o } = .next t)) ∨
    (u = .probeDelay ∧ t = probeDelayFires s) ∨
    (u = .pollTick ∧ t = pollTimerFires s) ∨
    (∃ p c, u = .reset p ∧ p.toConfig = some c ∧ t = resetWith c s) := by
  cases u with
  | issue =>
    refine .inl ⟨rfl, ?_⟩
    simp only [runTurn, runIssue] at h
    split at h
    · next i hi => exact .inr ⟨i, hi, h⟩
    · next hi => exact .inl ⟨hi, (Host.Outcome.next.inj h).symm⟩
  | host w => exact .inr (.inl ⟨w, rfl, h⟩)
  | complete o =>
    refine .inr (.inr (.inl ⟨o, rfl, ?_⟩))
    simp only [runTurn, runComplete] at h
    split at h
    · next hb =>
      split at h
      · next i hi => exact .inr ⟨i, hb, hi, h⟩
      · cases h
    · next hb => exact .inl ⟨by simpa using hb, (Host.Outcome.next.inj h).symm⟩
  | probeDelay => exact .inr (.inr (.inr (.inl ⟨rfl, (Host.Outcome.next.inj h).symm⟩)))
  | pollTick => exact .inr (.inr (.inr (.inr (.inl ⟨rfl, (Host.Outcome.next.inj h).symm⟩))))
  | reset p =>
    refine .inr (.inr (.inr (.inr (.inr ?_))))
    simp only [runTurn, runReset] at h
    split at h
    · next c hc => exact ⟨p, c, rfl, hc, (Host.Outcome.next.inj h).symm⟩
    · cases h

end Machine

end Sys2Proof
end

