-- ==== Sys2Proof/Laws/PerInstr.lean ====
section
/-! SUPPORT. Laws stated for every instruction: its encoding carries the match value of its row of opcode_table.json under the
row's mask. -/

namespace Sys2Proof.Laws.TableRow

/-- A row of the opcode table: which word it looks at, its mask and its match value. -/
inductive Row where
  | frame16 (mask value : Byte)
  | hostCmd (mask value : BitVec 4)
deriving DecidableEq, Repr

/-- The table's rows, in the table's order; `P_OP_ACK` and `P_OP_SHUTDOWN` are the configuration's. -/
def row (c : Config) : Instr → Row
  | .velocity _ _ => .frame16 0xFF 0x00
  | .sensorSetup => .frame16 0xFF 0x01
  | .sensorAccel => .frame16 0xFF 0x02
  | .sensorGyro => .frame16 0xFF 0x03
  | .sensorPosition => .frame16 0xFF 0x04
  | .sensorDeadReckoning => .frame16 0xFF 0x05
  | .ping => .frame16 0xFF 0xFF
  | .ack => .frame16 0xFF c.opAck
  | .shutdown => .frame16 0xFF c.opShutdown
  | .start _ _ => .hostCmd 0xF 0x1
  | .setVelocity _ _ => .hostCmd 0xF 0x2
  | .terminate _ _ => .hostCmd 0xF 0x3
  | .hostReservedZero _ _ => .hostCmd 0xF 0x0
  | .hostReservedLow _ _ _ => .hostCmd 0xC 0x4
  | .hostReservedHigh _ _ _ => .hostCmd 0x8 0x8

/-- A packet matches a row. -/
def Row.matches : Row → Packet → Prop
  | .frame16 mask value, .frame F => F.get 0 &&& mask = value
  | .hostCmd mask value, .host w => w.cmd &&& mask = value
  | .frame16 _ _, .host _ => False
  | .hostCmd _ _, .frame _ => False

/-- The instruction's encoding matches its row. -/
def Statement (i : Instr) : Prop := ∀ c : Config, (row c i).matches (encode c i)

/-- `a &&& 0xFF = a` for a byte. -/
theorem and_ones (a : Byte) : a &&& 0xFF = a := BitVec.and_allOnes

/-- The match of a frame built by putting its opcode first and bytes at other places after. -/
theorem poll_key (op : Byte) : (encodePoll op).get 0 &&& 0xFF = op := by
  simp only [encodePoll, Frame.put_get_same _ 0 _ (by decide), and_ones]

theorem velocity (lin ang : Word) : Statement (.velocity lin ang) := fun _ => by
  simp [row, Row.matches, encode, velocityFrame, be32Put, Config.opVelocity]

theorem sensorSetup : Statement .sensorSetup := fun _ => poll_key _

theorem sensorAccel : Statement .sensorAccel := fun _ => poll_key _

theorem sensorGyro : Statement .sensorGyro := fun _ => poll_key _

theorem sensorPosition : Statement .sensorPosition := fun _ => poll_key _

theorem sensorDeadReckoning : Statement .sensorDeadReckoning := fun _ => poll_key _

theorem ping : Statement .ping := fun _ => by
  simp [row, Row.matches, encode, encodeProbe, Config.opPing]

theorem ack : Statement .ack := fun c => poll_key c.opAck

theorem shutdown : Statement .shutdown := fun c => by
  show (encodeShutdown c).get 0 &&& 0xFF = c.opShutdown
  rw [and_ones]
  simp [encodeShutdown]

theorem start (arg0 arg1 : Word) : Statement (.start arg0 arg1) := fun _ => by
  simp [row, Row.matches, encode]

theorem setVelocity (lin ang : Word) : Statement (.setVelocity lin ang) := fun _ => by
  simp [row, Row.matches, encode]

theorem terminate (arg0 arg1 : Word) : Statement (.terminate arg0 arg1) := fun _ => by
  simp [row, Row.matches, encode]

theorem hostReservedZero (arg0 arg1 : Word) : Statement (.hostReservedZero arg0 arg1) := fun _ => by
  simp [row, Row.matches, encode]

theorem hostReservedLow (low : BitVec 2) (arg0 arg1 : Word) : Statement (.hostReservedLow low arg0 arg1) := fun _ => by
  revert low
  simp only [row, Row.matches, encode]
  decide

theorem hostReservedHigh (low : BitVec 3) (arg0 arg1 : Word) : Statement (.hostReservedHigh low arg0 arg1) := fun _ => by
  revert low
  simp only [row, Row.matches, encode]
  decide

end Sys2Proof.Laws.TableRow
end

