-- ==== Sys2Proof/Laws/Runs.lean ====
section
/-! SUPPORT. What a run's step keeps of `step`, and the one way weak fairness is used. -/

namespace Sys2Proof.Machine

/-- A step of `step` is a step of a run. -/
theorem Leads.of_step {s t : State} (h : step s = .next t) : Leads s t := ⟨t, h, rfl⟩

/-- The steps of a run of `n + 1` steps: `n` of them, and a last one. -/
theorem run_last (M : Host.Core) (n : Nat) : ∀ {s t : M.State}, M.run (n + 1) s = .next t →
    ∃ u, M.run n s = .next u ∧ M.step u = .next t := by
  induction n with
  | zero =>
    intro s t h
    cases hs : M.step s with
    | next v => exact ⟨s, rfl, by simpa [Host.Core.run, hs] using h⟩
    | fault r => simp [Host.Core.run, hs] at h
    | refused r => simp [Host.Core.run, hs] at h
  | succ n ih =>
    intro s t h
    rw [Host.Core.run.eq_2] at h
    cases hs : M.step s with
    | next v =>
      rw [hs] at h
      obtain ⟨u, hu, hl⟩ := ih h
      exact ⟨u, by rw [Host.Core.run.eq_2, hs]; exact hu, hl⟩
    | fault r => simp [hs] at h
    | refused r => simp [hs] at h

/-- Listing other turns is invisible to the invariant. -/
theorem Inv.setTurns {s : State} (h : Inv s) (ts : List Turn) : Inv { s with turns := ts } where
  busy_bus := h.busy_bus
  bus_states := h.bus_states
  cycle_states := h.cycle_states
  ack_states := h.ack_states
  wait_states := h.wait_states
  poll_states := h.poll_states
  slot_states := h.slot_states
  term_states := h.term_states
  count_states := h.count_states
  closed_count := h.closed_count
  flight := h.flight
  shutdown_boundary := h.shutdown_boundary
  slot_finite := h.slot_finite
  tx_wf := h.tx_wf
  rx_wf := h.rx_wf

/-- What every step keeps, every step of a run keeps. -/
theorem Leads.inv {s t : State} (keeps : ∀ v, step s = .next v → Inv v) (h : Leads s t) : Inv t := by
  obtain ⟨v, hv, ht⟩ := h
  rw [ht]
  exact (keeps v hv).setTurns _

/-- Where taking the step disables it, weak fairness says that it does not stay enabled. -/
theorem WeaklyFair.disabled {enabled taken : State → Prop} {r : Nat → State} (fair : WeaklyFair enabled taken r)
    (disables : ∀ m, taken (r m) → ¬ enabled (r (m + 1))) (n : Nat) : ∃ m, n ≤ m ∧ ¬ enabled (r m) := by
  by_contra hno
  have all : ∀ m, n ≤ m → enabled (r m) := fun m hm => by
    by_contra hm'
    exact hno ⟨m, hm, hm'⟩
  obtain ⟨m, hm, ht⟩ := fair n all
  exact disables m ht (all (m + 1) (by omega))

end Sys2Proof.Machine
end

