-- ==== Sys2Proof/Tests/Slice0.lean ====
section
/-! SUPPORT. The model's own tests: expected values are the spec's (95_test_vectors.md and the rules named); and, for every statement
that has hypotheses, a concrete state and operands that meet them. -/

namespace Sys2Proof.Tests

open Machine

/-! ## Small states -/

/-- The example configuration EX of 95_test_vectors.md. -/
def exParams : Params := ⟨0xA5, 0x5A, 0xC3, .g, 2, 100000, 1, 1⟩

/-- EX, as a configuration. -/
def ex : Config := ⟨exParams, by decide⟩

/-- Idle in a link state under EX, the bus open where R50 says so. -/
def idle (l : LinkState) : State :=
  { State.reset with
    cfg := ex
    linkState := l
    busOpen := decide (l = .handshaking ∨ l = .ready ∨ l = .shuttingDown) }

/-- Ready with a poll cycle at step `k`. -/
def polling (k : CycleStep) : State := { idle .ready with cycleActive := true, cycleStep := k }

/-- `s` with the frame that starts with `bs` in flight, and the outcome `o` drawn for it. -/
def inFlight (bs : List Byte) (o : XferOutcome) (s : State) : State :=
  { s with busy := true, tx := Memory.ofFrame (Frame.pad bs), outcome := o }

/-- `ok [bs]`. -/
def reply (bs : List Byte) : XferOutcome := .ok (Frame.pad bs)

/-- One reading of a next state. -/
def after {α : Type} (f : State → α) : Result → Option α
  | .next t => some (f t)
  | .fault _ => none
  | .refused _ => none

/-- The value of an `ok`. -/
def okOf {ε α : Type} : Except ε α → Option α
  | .ok a => some a
  | .error _ => none

/-! ## Well-formedness: each check refuses an ill-formed term -/

theorem test_velocity_needs_finite_lin : Instr.WellFormed (.velocity 0x7FC00000 0) = false := by decide

theorem test_velocity_needs_finite_ang : Instr.WellFormed (.velocity 0 0xFF800000) = false := by decide

theorem test_velocity_of_finite_is_wellformed : Instr.WellFormed (.velocity 0x7F7FFFFF 0x807FFFFF) = true := by decide

/-- R11: the ill-formed parameters, one for each check, and EX. -/
theorem test_params_checks :
    ({ exParams with opAck := 0x05 } : Params).wf = false ∧ ({ exParams with opAck := 0xFF } : Params).wf = false ∧
    ({ exParams with opShutdown := 0x00 } : Params).wf = false ∧ ({ exParams with opShutdown := 0xA5 } : Params).wf = false ∧
    ({ exParams with probeDelayUs := 0 } : Params).wf = false ∧ ({ exParams with pollPeriodUs := 0 } : Params).wf = false ∧
    ({ exParams with xferTimeoutUs := 0 } : Params).wf = false ∧ exParams.wf = true := by decide

/-! ## Decoding: words written out from R101 to R105, R111 and R115 -/

theorem test_decode_velocity :
    okOf (decode ex (.frame (Frame.pad [0x00, 0x3F, 0xC0, 0x00, 0x00, 0xBE, 0x80, 0x00, 0x00]))) =
      some (.velocity 0x3FC00000 0xBE800000) := by decide

theorem test_decode_polls :
    [0x01, 0x02, 0x03, 0x04, 0x05].map (fun b => okOf (decode ex (.frame (Frame.pad [b])))) =
      [some .sensorSetup, some .sensorAccel, some .sensorGyro, some .sensorPosition, some .sensorDeadReckoning] := by decide

theorem test_decode_ping_ack_shutdown :
    okOf (decode ex (.frame (Frame.pad [0xFF, 0xFF]))) = some .ping ∧
    okOf (decode ex (.frame (Frame.pad [0xA5]))) = some .ack ∧
    okOf (decode ex (.frame (Frame.pad [0x5A, 0xC3]))) = some .shutdown := by decide

/-- R114: 0x06 and 0xFE are reserved under EX. -/
theorem test_decode_reserved_opcode :
    okOf (decode ex (.frame (Frame.pad [0x06]))) = none ∧ okOf (decode ex (.frame (Frame.pad [0xFE]))) = none := by decide

theorem test_decode_host :
    okOf (decode ex (.host ⟨0x1, 7, 8⟩)) = some (.start 7 8) ∧
    okOf (decode ex (.host ⟨0x2, 0x3FC00000, 0xBE800000⟩)) = some (.setVelocity 0x3FC00000 0xBE800000) ∧
    okOf (decode ex (.host ⟨0x3, 7, 8⟩)) = some (.terminate 7 8) := by decide

theorem test_decode_host_reserved :
    okOf (decode ex (.host ⟨0x0, 7, 8⟩)) = some (.hostReservedZero 7 8) ∧
    okOf (decode ex (.host ⟨0x4, 7, 8⟩)) = some (.hostReservedLow 0 7 8) ∧
    okOf (decode ex (.host ⟨0x7, 7, 8⟩)) = some (.hostReservedLow 3 7 8) ∧
    okOf (decode ex (.host ⟨0x8, 7, 8⟩)) = some (.hostReservedHigh 0 7 8) ∧
    okOf (decode ex (.host ⟨0xF, 7, 8⟩)) = some (.hostReservedHigh 7 7 8) := by decide

/-- E1 and V12, from the encoder. -/
theorem test_encode_bytes :
    encode ex (.velocity 0x3FC00000 0xBE800000) =
      .frame ⟨[0x00, 0x3F, 0xC0, 0x00, 0x00, 0xBE, 0x80, 0x00, 0x00, 0, 0, 0, 0, 0, 0, 0], rfl⟩ ∧
    encode ex .shutdown = .frame ⟨[0x5A, 0xC3, 0, 0, 0, 0, 0, 0, 0, 0, 0, 0, 0, 0, 0, 0], rfl⟩ := by decide

/-- Table words under the board's configuration, whatever it is (log 16). -/
theorem test_decodeTableWord :
    decodeTableWord 72 0x2 = some (.setVelocity 0 0) ∧ decodeTableWord 4 0x3 = some (.terminate 0 0) ∧
    decodeTableWord 8 0xFF = some .ping ∧ decodeTableWord 8 0x03 = some .sensorGyro ∧
    decodeTableWord 8 0x08 = some (.hostReservedHigh 0 0 0) ∧ decodeTableWord 68 0x1F4 = some (.hostReservedLow 0 0x1F 0) :=
  ⟨rfl, rfl, rfl, rfl, rfl, rfl⟩

/-- A placed poll frame is issued by the very next step: `TX[0]` and the status word of P2 step 6. -/
theorem test_withFetchWord_frame :
    after (fun t => (t.tx.read 0, statusWord t)) (step ((idle .uninitialized).withFetchWord 8 0x03)) =
      some (0x03, 0x0000051A) := by decide

/-- A placed host word is run by the very next step: START from reset (P1 step 3, no velocity queued). -/
theorem test_withFetchWord_host :
    after (fun t => (t.responses, statusWord t)) (step (State.reset.withFetchWord 72 0x1)) = some ([.ok], 0x00000009) := by
  decide

/-! ## Codec and arithmetic vectors -/

/-- V3, V4, V6. -/
theorem test_encode_velocity_corners :
    (okOf (encodeVelocity 0x7F7FFFFF 0xFF7FFFFF)).map Frame.bytes =
      some [0x00, 0x7F, 0x7F, 0xFF, 0xFF, 0xFF, 0x7F, 0xFF, 0xFF, 0, 0, 0, 0, 0, 0, 0] ∧
    (okOf (encodeVelocity 0x00000001 0x807FFFFF)).map Frame.bytes =
      some [0x00, 0x00, 0x00, 0x00, 0x01, 0x80, 0x7F, 0xFF, 0xFF, 0, 0, 0, 0, 0, 0, 0] ∧
    okOf (encodeVelocity 0x3F800000 0xFF800000) = none := by decide

/-- T1, T2, T5, T6, T7. -/
theorem test_decoders_at_their_lengths :
    okOf (decodeFloatTriplet Frame.zero 12) = none ∧
    okOf (decodeFloatTriplet (Frame.pad [0x02, 0x3F, 0x80, 0, 0, 0, 0, 0, 0, 0xBF, 0x80, 0, 0]) 13) =
      some (0x3F800000, 0x00000000, 0xBF800000) ∧
    okOf (decodeFloatPair Frame.zero 8) = none ∧
    okOf (decodeFloatPair (Frame.pad [0x05, 0x3E, 0x80, 0, 0, 0x40, 0, 0, 0]) 9) = some (0x3E800000, 0x40000000) ∧
    okOf (decodeHandshakeReply Frame.zero 2) = none ∧
    okOf (decodeHandshakeReply (Frame.pad [0x00, 0xFF, 0x00]) 3) = some .confirmed := by decide

/-- T9, T11, T12, T13. -/
theorem test_handshake_not_ready :
    [[0x00], [0x01, 0x02, 0x03], [0x00, 0xFF, 0x01], [0x80, 0xFF, 0x00]].map
      (fun bs => okOf (decodeHandshakeReply (Frame.pad bs) 16)) = List.replicate 4 (some .notReady) := by decide

/-- M5, M6, M7, M8, M15, M18, M19, M21. -/
theorem test_fmul32 :
    fmul32 0x43340000 Config.kG = 0x44DCB99A ∧ fmul32 0x7F7FFFFF Config.kG = 0x7F800000 ∧
    fmul32 0x00000001 Config.kG = 0x0000000A ∧ fmul32 0x80000001 Config.kG = 0x8000000A ∧
    fmul32 0x42C80000 Config.kD2R = 0x3FDF66F3 ∧ fmul32 0x00000001 Config.kD2R = 0x00000000 ∧
    fmul32 0x00800000 Config.kD2R = 0x00023BE9 ∧ fmul32 0xFF800000 Config.kD2R = 0xFF800000 := by decide +kernel

/-- C2: under `MPS2` the three fields are copied. -/
theorem test_conv_accel_mps2 :
    convAccel .mps2 0x3F800000 0x00000000 0xBF800000 = ⟨0x3F800000, 0x00000000, 0xBF800000⟩ := by decide

/-! ## One step of each instruction -/

/-- P1 step 14: the slot goes out and is cleared. -/
theorem test_velocity_issue :
    after (fun t => (t.tx.toFrame.bytes, statusWord t))
      (exec (.velocity 0x3FC00000 0xBE800000)
        { idle .ready with slotValid := true, slotLin := 0x3FC00000, slotAng := 0xBE800000 }) =
      some ([0x00, 0x3F, 0xC0, 0x00, 0x00, 0xBE, 0x80, 0x00, 0x00, 0, 0, 0, 0, 0, 0, 0], 0x0000001A) := by decide

/-- X4. -/
theorem test_velocity_timeout :
    after (fun t => (t.events, statusWord t)) (exec (.velocity 0 0) (inFlight [0x00] (.fail .timeout) (idle .ready))) =
      some ([.xferError 0x00 .transportTimeout], 0x0000000A) := by decide

/-- P2 step 2. -/
theorem test_setup_starts_the_cycle :
    after (fun t => (t.tx.toFrame.bytes, statusWord t)) (exec .sensorSetup { idle .ready with pollDue := true }) =
      some (0x01 :: List.replicate 15 0x00, 0x0000011A) := by decide

/-- X5. -/
theorem test_setup_iofail :
    after (fun t => (t.events, t.seq, statusWord t)) (exec .sensorSetup (inFlight [0x01] (.fail .iofail) (polling .setup))) =
      some ([.xferError 0x01 .transportIoFailure, .cycleError 0 .transportIoFailure], 1, 0x0000000A) := by decide

/-- P2 step 5. -/
theorem test_accel_completion :
    after (fun t => (t.accAccel, statusWord t))
      (exec .sensorAccel
        (inFlight [0x02] (reply [0x02, 0x3F, 0x80, 0, 0, 0, 0, 0, 0, 0xBF, 0x80, 0, 0]) (polling .accel))) =
      some (⟨0x411CF5C3, 0x00000000, 0xC11CF5C3⟩, 0x0000050A) := by decide +kernel

/-- P3 step 5. -/
theorem test_accel_timeout :
    after (fun t => (t.events, t.seq, statusWord t))
      (exec .sensorAccel (inFlight [0x02] (.fail .timeout) { polling .accel with seq := 1 })) =
      some ([.xferError 0x02 .transportTimeout, .cycleError 1 .transportTimeout], 2, 0x0000000A) := by decide

/-- P2 step 8, with the velocity of step 7 in the slot. -/
theorem test_gyro_completion :
    after (fun t => (t.accGyro, statusWord t))
      (exec .sensorGyro
        (inFlight [0x03] (reply [0x03, 0x43, 0x34, 0, 0, 0x42, 0xB4, 0, 0, 0x80, 0, 0, 0])
          { polling .gyro with slotValid := true, slotLin := 0x3F000000 })) =
      some (⟨0x40490FDB, 0x3FC90FDB, 0x80000000⟩, 0x0000074A) := by decide +kernel

/-- S2. -/
theorem test_gyro_timeout :
    after (fun t => (t.events, t.seq))
      (exec .sensorGyro (inFlight [0x03] (.fail .timeout) { polling .gyro with seq := 5 })) =
      some ([.xferError 0x03 .transportTimeout, .cycleError 5 .transportTimeout], 6) := by decide

/-- P2 step 10: the position is copied, the heading is in radians. -/
theorem test_position_pose :
    after (fun t => (t.accPose, t.cycleStep))
      (exec .sensorPosition
        (inFlight [0x04] (reply [0x04, 0x3F, 0x80, 0, 0, 0x40, 0, 0, 0, 0x42, 0xB4, 0, 0]) (polling .position))) =
      some (⟨0x3F800000, 0x40000000, 0x3FC90FDB⟩, .deadReckoning) := by decide +kernel

/-- Q2: a heading of -0, under any configuration functions. -/
theorem test_position_orientation :
    after State.accOrient (exec .sensorPosition (inFlight [0x04] (reply [0x04, 0, 0, 0, 0, 0, 0, 0, 0, 0x80]) (polling .position))) =
      some ⟨0x3F800000, 0, 0, 0x80000000⟩ := by decide +kernel

/-- S3 and C7: the record carries `seq` before it wraps. -/
theorem test_deadReckoning_record :
    after (fun t => (t.events, t.seq, statusWord t))
      (exec .sensorDeadReckoning
        (inFlight [0x05] (reply [0x05, 0x3E, 0x80, 0, 0, 0x40, 0, 0, 0])
          { polling .deadReckoning with seq := 0xFFFFFFFF, accAccel := ⟨1, 2, 3⟩ })) =
      some ([.record ⟨0xFFFFFFFF, ⟨1, 2, 3⟩, ⟨0, 0, 0⟩, ⟨0, 0, 0⟩, ⟨0, 0, 0, 0⟩, ⟨0x3E800000, 0x40000000⟩⟩], 0, 0x0000000A) := by
  decide

/-- C8: a NaN and an infinity are stored unchanged. -/
theorem test_deadReckoning_copies_specials :
    after State.accDr
      (exec .sensorDeadReckoning
        (inFlight [0x05] (reply [0x05, 0x7F, 0xC0, 0, 1, 0xFF, 0x80, 0, 0]) (polling .deadReckoning))) =
      some ⟨0x7FC00001, 0xFF800000⟩ := by decide

/-- P1 step 8: the second failed probe under `P_PROBE_REPORT_N` = 2. -/
theorem test_ping_second_failure :
    after (fun t => (t.events, t.probeFails, statusWord t))
      (exec .ping (inFlight [0xFF, 0xFF] (reply [0x01, 0x02, 0x03]) { idle .handshaking with probeFails := 1 })) =
      some ([.probeStall 2], 2, 0x00008009) := by decide

/-- P1 step 11. -/
theorem test_ping_confirmed :
    after (fun t => (t.events, statusWord t))
      (exec .ping (inFlight [0xFF, 0xFF] (reply [0x00, 0xFF, 0x00]) (idle .handshaking))) = some ([], 0x0000002A) := by decide

/-- P1 step 12. -/
theorem test_ack_issue :
    after (fun t => (t.tx.toFrame.bytes, statusWord t)) (exec .ack { idle .ready with ackPending := true, slotValid := true }) =
      some (0xA5 :: List.replicate 15 0x00, 0x0000007A) := by decide

/-- X3. -/
theorem test_ack_iofail :
    after (fun t => (t.events, statusWord t))
      (exec .ack (inFlight [0xA5] (.fail .iofail) { idle .ready with ackPending := true })) =
      some ([.xferError 0xA5 .transportIoFailure], 0x0000000A) := by decide

/-- P3 step 13 (S4): the termination preempts a cycle. -/
theorem test_shutdown_preempts :
    after (fun t => (t.tx.toFrame.bytes, t.events, t.seq, statusWord t))
      (exec .shutdown { polling .gyro with termPending := true, seq := 2 }) =
      some (0x5A :: 0xC3 :: List.replicate 14 0x00, [.cycleError 2 .cyclePreempted], 3, 0x0000201B) := by decide

/-- X7, P3 step 16. -/
theorem test_shutdown_second_iofail :
    after (fun t => (t.events, statusWord t))
      (exec .shutdown (inFlight [0x5A, 0xC3] (.fail .iofail) { idle .shuttingDown with shutdownCount := 2 })) =
      some ([.xferError 0x5A .transportIoFailure], 0x00004004) := by decide

/-- P1 step 3. -/
theorem test_start_uninitialized :
    after (fun t => (t.responses, statusWord t)) (exec (.start 0 0) { idle .uninitialized with slotValid := true }) =
      some ([.ok], 0x00000049) := by decide

/-- P3 step 18. -/
theorem test_start_closed :
    after (fun t => (t.responses, statusWord t)) (exec (.start 0 0) { idle .closed with shutdownCount := 2 }) =
      some ([.linkClosed], 0x00004004) := by decide

/-- P6 step 2. -/
theorem test_setVelocity_ok :
    after (fun t => (t.responses, t.slotLin, t.slotAng, statusWord t)) (exec (.setVelocity 0x40000000 0x3E800000) (idle .ready)) =
      some ([.ok], 0x40000000, 0x3E800000, 0x0000004A) := by decide

/-- Section 5, row "Ready, tp", column `SETV NaN, 0`: the state check wins. -/
theorem test_setVelocity_check_order :
    after (fun t => (t.responses, t.slotValid)) (exec (.setVelocity 0x7FC00000 0) { idle .ready with termPending := true }) =
      some ([.linkClosed], false) := by decide

/-- P4 step 2. -/
theorem test_terminate_uninitialized :
    after (fun t => (t.responses, statusWord t)) (exec (.terminate 0 0) { idle .uninitialized with slotValid := true }) =
      some ([.ok], 0x00000004) := by decide

/-- P5 step 4. -/
theorem test_terminate_handshaking :
    after (fun t => (t.responses, statusWord t)) (exec (.terminate 0 0) { idle .handshaking with probeWait := true }) =
      some ([.ok], 0x00009009) := by decide

/-- Section 5, row Closed: a reserved code wins over the state check. -/
theorem test_hostReserved_closed :
    after State.responses (exec (.hostReservedZero 0 0) (idle .closed)) = some [.illegalCmd] ∧
    after State.responses (exec (.hostReservedLow 0 0 0) (idle .closed)) = some [.illegalCmd] ∧
    after State.responses (exec (.hostReservedHigh 7 0 0) (idle .closed)) = some [.illegalCmd] := by decide

/-- R-2: a reset while VELOCITY is in flight. -/
theorem test_reset_aborts :
    after (fun t => (statusWord t, chipSelectLevel t, t.events))
      (step { inFlight [0x00] (.fail .timeout) (idle .ready) with turns := [.reset exParams] }) = some (0, true, []) := by decide

/-- An instruction no agent's step is enabled for stops by name (log 7). -/
theorem test_issue_not_enabled : after State.busy (exec .ping (idle .ready)) = none := by decide

/-! ## Witnesses: a state and operands for the hypotheses of each statement -/

/-- Every idle state, and every poll cycle at a boundary, meets the invariant where the rest of the state is at reset. -/
theorem witness_inv_ready : Inv (idle .ready) := by
  constructor <;> first | decide | exact fun h => absurd h (by decide)

theorem witness_inv_handshaking : Inv { idle .handshaking with termPending := true } := by
  constructor <;> first | decide | exact fun h => absurd h (by decide)

theorem witness_inv_closed : Inv (idle .closed) := by
  constructor <;> first | decide | exact fun h => absurd h (by decide)

theorem witness_inv_shuttingDown : Inv { idle .shuttingDown with shutdownCount := 1 } := by
  constructor <;> first | decide | exact fun h => absurd h (by decide)

/-- And with an exchange in flight. -/
theorem witness_inv_inFlight : Inv (inFlight [0x02] (reply []) (polling .accel)) := by
  constructor <;> first | decide | exact fun _ => ⟨rfl, rfl, rfl⟩

theorem witness_inv_pinging : Inv (inFlight [0xFF, 0xFF] (reply [0x00, 0xFF, 0x00]) (idle .handshaking)) := by
  constructor <;> first | decide | exact fun _ => ⟨rfl, rfl⟩

theorem witness_inv_closing :
    Inv (inFlight [0x5A, 0xC3] (reply []) { idle .shuttingDown with shutdownCount := 2 }) := by
  constructor <;> first | decide | exact fun _ => ⟨rfl, by decide⟩

/-- DecodeOfEncodeIsTheInstruction. -/
theorem witness_wellformed : Instr.WellFormed (.velocity 0x3FC00000 0xBE800000) = true ∧ Instr.WellFormed .ack = true := by decide

/-- OnlyListedOpcodesDecode, both clauses. -/
theorem witness_opcodes :
    (Frame.pad [0xFF]).get 0 ∈ Claims.opcodes ex ∧ (Frame.pad [0x06]).get 0 ∉ Claims.opcodes ex := by decide

/-- VelocityIsEncodedBitForBit, VelocityRoundTripIsExact, SetVelocityCommand: the largest finite exponent and the one above. -/
theorem witness_finite :
    (0x7F7FFFFF#32).extractLsb' 23 8 ≠ 0xFF ∧ (0x00000001#32).extractLsb' 23 8 ≠ 0xFF ∧ (0x7F800000#32).extractLsb' 23 8 = 0xFF ∧
    isFinite 0x7F7FFFFF = true ∧ isFinite 0x00000001 = true := by decide

/-- FieldPutThenGetMovesThePattern: the last offset, and the bytes on either side of its field. -/
theorem witness_field : (9 = 1 ∨ 9 = 5 ∨ 9 = 9) ∧ (8 < 9 ∨ 9 + 4 ≤ 8) ∧ (13 < 9 ∨ 9 + 4 ≤ 13) := by decide

/-- DecodersCheckTheLengthFirst: each decoder's boundary on both sides. -/
theorem witness_lengths : 2 ≤ 16 ∧ 3 ≤ 16 ∧ 8 ≤ 16 ∧ 9 ≤ 16 ∧ 12 ≤ 16 ∧ 13 ≤ 16 := by decide

/-- DecodersReadNoByteBeyondTheLength: two frames that differ at byte 13 only. -/
theorem witness_beyond : ∀ i, i < 13 → Frame.zero.get i = (Frame.zero.put 13 0x01).get i := by decide

/-- WireOrderIsMsbFirst: the last bit. (ExchangePinsCarryBothFrames: `witness_inv_closed`'s state has its bus released.) -/
theorem witness_wire : 15 < 16 ∧ 7 < 8 ∧ (idle .closed).busOpen = false := by decide

/-- ResetRestoresEveryElement, its clause about a run: one step after the reset, of a timer. -/
theorem witness_reset_run :
    ∃ t, step { idle .ready with turns := [.reset exParams, .pollTick] } = .next t ∧
      (∀ m v, m < 1 → Host.Core.run Sys2Proof.core m t = .next v → Claims.notReset (nextTurn v)) ∧
      ∃ u, Host.Core.run Sys2Proof.core 1 t = .next u := by
  refine ⟨_, rfl, ?_, _, rfl⟩
  intro m v hm h p
  obtain rfl : m = 0 := by omega
  cases h
  exact Turn.noConfusion

/-- ResetRestoresEveryElement; and IllFormedParametersAreRefused, its three clauses. -/
theorem witness_reset :
    nextTurn { inFlight [0x00] (.fail .timeout) (idle .ready) with turns := [.reset exParams] } = .reset exParams ∧
    exParams.wf = true ∧
    nextTurn { idle .ready with turns := [.reset { exParams with opAck := 0xFF }] } = .reset { exParams with opAck := 0xFF } ∧
    ({ exParams with opAck := 0xFF } : Params).opAck ∈ [0x00, 0x01, 0x02, 0x03, 0x04, 0x05, 0xFF] ∧
    ({ exParams with opShutdown := 0x00 } : Params).opShutdown ∈ [0x00, 0x01, 0x02, 0x03, 0x04, 0x05, 0xFF] ∧
    ({ exParams with opShutdown := 0xA5 } : Params).opAck = ({ exParams with opShutdown := 0xA5 } : Params).opShutdown :=
  ⟨rfl, by decide, rfl, by decide, by decide, by decide⟩

/-- ParametersAreHeldBetweenResets, HistoriesOnlyGrow, StepKeepsTheInvariant (with `witness_inv_inFlight`'s state), NoFrameIsAbortedButByReset
and LinkStateTransitions: a step that goes on, of a turn that is no reset and no completion, with an exchange in flight. -/
theorem witness_step_in_flight :
    (∃ t, step { inFlight [0x02] (reply []) (polling .accel) with turns := [.host ⟨0x3, 0, 0⟩] } = .next t) ∧
    Inv { inFlight [0x02] (reply []) (polling .accel) with turns := [.host ⟨0x3, 0, 0⟩] } ∧
    Claims.notReset (nextTurn { inFlight [0x02] (reply []) (polling .accel) with turns := [.host ⟨0x3, 0, 0⟩] }) ∧
    (∀ o, nextTurn { inFlight [0x02] (reply []) (polling .accel) with turns := [.host ⟨0x3, 0, 0⟩] } ≠ .complete o) := by
  refine ⟨⟨_, rfl⟩, ?_, fun _ h => Turn.noConfusion h, fun _ h => Turn.noConfusion h⟩
  constructor <;> first | decide | exact fun _ => ⟨rfl, rfl, rfl⟩

/-- StartCommand and TerminateCommand (each state), SetVelocityCommand (both state clauses). -/
theorem witness_commands :
    (idle .uninitialized).linkState = .uninitialized ∧ (idle .closed).linkState = .closed ∧
    (idle .handshaking).linkState = .handshaking ∧ (idle .ready).linkState = .ready ∧
    (idle .shuttingDown).linkState = .shuttingDown ∧ ({ idle .ready with termPending := true } : State).termPending = true ∧
    (idle .ready).linkState ≠ .shuttingDown ∧ (idle .ready).linkState ≠ .closed ∧ (idle .ready).termPending = false := by decide

/-- ReservedHostCodes: the codes next to the three commands. -/
theorem witness_reserved :
    ∀ c ∈ [0x0#4, 0x4, 0xF], (⟨c, 0, 0⟩ : HostWord).cmd ≠ 0x1 ∧ (⟨c, 0, 0⟩ : HostWord).cmd ≠ 0x2 ∧ (⟨c, 0, 0⟩ : HostWord).cmd ≠ 0x3 := by
  decide

/-- ClosedOnlyAnswers (with `witness_inv_closed`'s state), both clauses. -/
theorem witness_closed :
    Inv { idle .closed with turns := [.host ⟨0x1, 0, 0⟩] } ∧ (idle .closed).linkState = .closed ∧
    Claims.notReset (nextTurn { idle .closed with turns := [.host ⟨0x1, 0, 0⟩] }) ∧
    (∀ w, nextTurn { idle .closed with turns := [.pollTick] } ≠ .host w) := by
  refine ⟨?_, rfl, fun _ h => Turn.noConfusion h, fun _ h => Turn.noConfusion h⟩
  constructor <;> first | decide | exact fun h => absurd h (by decide)

/-- SelectionOrder: rows A1, A2, A3, A4, A5, A6, A7, A8, A10 and A11 of 95_test_vectors.md, with what `select` gives there. -/
theorem witness_selection :
    select (idle .handshaking) = some .ping ∧ select { idle .handshaking with probeWait := true } = none ∧
    select { idle .handshaking with probeWait := true, termPending := true } = some .preempt ∧
    select { idle .ready with ackPending := true, slotValid := true, pollDue := true } = some .ack ∧
    select { polling .position with slotValid := true } = some (.sensor .position) ∧
    select { idle .ready with slotValid := true, pollDue := true } = some .velocity ∧
    select { idle .ready with pollDue := true } = some .startCycle ∧ select (idle .ready) = none ∧
    select { idle .shuttingDown with shutdownCount := 1 } = some .shutdown ∧
    select { idle .shuttingDown with shutdownCount := 2 } = none ∧ select (idle .closed) = none := by decide

/-- IssueStepSendsOneListedFrame, both clauses. -/
theorem witness_issue_turn :
    nextTurn { idle .handshaking with turns := [.issue] } = .issue ∧ (idle .handshaking).slotValid = false ∧
    (idle .handshaking).busy = false ∧ (idle .handshaking).busOpen = true ∧ select { idle .handshaking with turns := [.issue] } ≠ none ∧
    nextTurn { idle .closed with turns := [.issue] } = .issue ∧ (idle .closed).busOpen = false :=
  ⟨rfl, by decide, by decide, by decide, by decide, rfl, by decide⟩

/-- PreemptTakesTheTermination, with a cycle active. -/
theorem witness_preempt :
    let s : State := { polling .gyro with termPending := true }
    s.busy = false ∧ s.busOpen = true ∧ (s.linkState = .handshaking ∨ s.linkState = .ready) ∧ s.termPending = true := by decide

/-- PingExchange: the issue; the completion with a confirming reply, and with none. -/
theorem witness_ping :
    let s := idle .handshaking
    let c := inFlight [0xFF, 0xFF] (reply [0x00, 0xFF, 0x00]) s
    let f := inFlight [0xFF, 0xFF] (.fail .iofail) s
    (s.busy = false ∧ s.busOpen = true ∧ s.linkState = .handshaking ∧ s.termPending = false ∧ s.probeWait = false) ∧
    (c.busy = true ∧ c.tx.read 0 = 0xFF ∧ Claims.Confirms c.outcome) ∧
    (f.busy = true ∧ f.tx.read 0 = 0xFF ∧ ¬ Claims.Confirms f.outcome) :=
  ⟨by decide, ⟨rfl, by decide, ⟨_, rfl, by decide⟩⟩, ⟨rfl, by decide, fun ⟨_, h, _⟩ => XferOutcome.noConfusion h⟩⟩

/-- AckExchange. -/
theorem witness_ack :
    let s : State := { idle .ready with ackPending := true }
    let c := inFlight [0xA5] (.fail .timeout) s
    (s.busy = false ∧ s.busOpen = true ∧ s.linkState = .ready ∧ s.termPending = false ∧ s.ackPending = true) ∧
    (c.busy = true ∧ c.tx.read 0 = c.cfg.opAck) := by decide

/-- VelocityExchange. -/
theorem witness_velocity :
    let s : State := { idle .ready with slotValid := true, slotLin := 0x7F7FFFFF }
    let c := inFlight [0x00, 0x7F, 0x7F, 0xFF, 0xFF] (reply []) s
    (s.busy = false ∧ s.busOpen = true ∧ s.linkState = .ready ∧ s.termPending = false ∧ s.ackPending = false ∧
      s.cycleActive = false ∧ s.slotValid = true ∧ isFinite s.slotLin = true ∧ isFinite s.slotAng = true) ∧
    (c.busy = true ∧ c.tx.read 0 = 0x00) := by decide

/-- SetupExchange: through START_CYCLE, through the cycle's own clause, and both completions. -/
theorem witness_setup :
    let s : State := { idle .ready with pollDue := true }
    let p := polling .setup
    let c := inFlight [0x01] (reply []) p
    let f := inFlight [0x01] (.fail .timeout) p
    (s.busy = false ∧ s.busOpen = true ∧ s.linkState = .ready ∧ s.termPending = false ∧ s.ackPending = false ∧
      s.cycleActive = false ∧ s.slotValid = false ∧ s.pollDue = true) ∧
    (p.busy = false ∧ p.busOpen = true ∧ p.linkState = .ready ∧ p.termPending = false ∧ p.ackPending = false ∧
      p.cycleActive = true ∧ p.cycleStep = .setup) ∧
    (c.busy = true ∧ c.tx.read 0 = 0x01 ∧ c.outcome = .ok (Frame.pad [])) ∧ f.outcome = .fail .timeout := by decide

/-- AccelExchange, GyroExchange, PositionExchange, DeadReckoningExchange: issue, and completion with each outcome. -/
theorem witness_polls :
    ∀ p ∈ [(0x02#8, CycleStep.accel), (0x03, .gyro), (0x04, .position), (0x05, .deadReckoning)],
      let s := polling p.2
      let c := inFlight [p.1] (reply []) s
      let f := inFlight [p.1] (.fail .iofail) s
      (s.busy = false ∧ s.busOpen = true ∧ s.linkState = .ready ∧ s.termPending = false ∧ s.ackPending = false ∧
        s.cycleActive = true ∧ s.cycleStep = p.2) ∧
      (c.busy = true ∧ c.tx.read 0 = p.1 ∧ c.outcome = .ok (Frame.pad [])) ∧
      (f.busy = true ∧ f.tx.read 0 = p.1 ∧ f.outcome = .fail .iofail) := by decide

/-- ShutdownExchange: both issues and both completions. -/
theorem witness_shutdown :
    let s0 := idle .shuttingDown
    let s1 : State := { s0 with shutdownCount := 1 }
    let c1 := inFlight [0x5A, 0xC3] (reply []) s1
    let c2 := inFlight [0x5A, 0xC3] (reply []) { s0 with shutdownCount := 2 }
    (s0.busy = false ∧ s0.busOpen = true ∧ s0.linkState = .shuttingDown ∧ s0.shutdownCount < 2) ∧
    (s1.busy = false ∧ s1.busOpen = true ∧ s1.linkState = .shuttingDown ∧ s1.shutdownCount < 2) ∧
    (c1.busy = true ∧ c1.tx.read 0 = c1.cfg.opShutdown ∧ c1.shutdownCount ≠ 2) ∧
    (c2.busy = true ∧ c2.tx.read 0 = c2.cfg.opShutdown ∧ c2.shutdownCount = 2) := by decide

/-- IssueWritesTxAndItsElements. -/
theorem witness_issue : Claims.isFrame .ping = true ∧ (idle .handshaking).busy = false ∧ ∃ t, exec .ping (idle .handshaking) = .next t :=
  ⟨rfl, rfl, _, rfl⟩

/-- CompletionWritesRxAndItsElements. -/
theorem witness_completion :
    Claims.isFrame .sensorSetup = true ∧ (inFlight [0x01] (reply [0x07]) (polling .setup)).busy = true ∧
      ∃ t, exec .sensorSetup (inFlight [0x01] (reply [0x07]) (polling .setup)) = .next t :=
  ⟨rfl, rfl, _, rfl⟩

/-- The accumulator's clauses of IssueWritesTxAndItsElements and of CompletionWritesRxAndItsElements. -/
theorem witness_accumulator :
    (Instr.ping ≠ .shutdown ∨ (idle .handshaking).cycleActive = false) ∧
    (inFlight [0x01] (reply [0x07]) (polling .setup)).outcome = .ok (Frame.pad [0x07]) ∧
    (∀ k, Instr.ping ≠ CycleStep.instr k) := by
  refine ⟨by decide, rfl, ?_⟩
  intro k
  cases k <;> decide

/-- StepRunsTheDecodedInstruction: its three clauses. -/
theorem witness_step_decodes :
    okOf (decode ex (.host ⟨0x1, 0, 0⟩)) = some (.start 0 0) ∧
    (inFlight [0x01] (reply []) (polling .setup)).busy = true ∧
    okOf (decode ex (.frame (inFlight [0x01] (reply []) (polling .setup)).tx.toFrame)) = some .sensorSetup ∧
    selectedFrame { idle .handshaking with turns := [.issue] } = some .ping := by decide

/-- PlacedWordIsRunNext: its two clauses. -/
theorem witness_placed :
    tablePacket 72 0x1 = .host ⟨0x1, 0, 0⟩ ∧ tablePacket 8 0x03 = .frame (Frame.pad [0x03]) ∧
    okOf (decodeFrame ex (Frame.pad [0x03])) = some .sensorGyro ∧ Instr.WellFormed .sensorGyro = true := by decide

/-- ExchangesStartOnlyOnAnOpenBus and ShutdownFramesOnlyInShuttingDown: an issue from a boundary. -/
theorem witness_exchange_starts :
    (∃ t, step { idle .shuttingDown with shutdownCount := 1, turns := [.issue] } = .next t ∧ t.busy = true ∧
      t.tx.read 0 = 0x5A) ∧
    Inv { idle .shuttingDown with shutdownCount := 1, turns := [.issue] } ∧
    Claims.notReset (nextTurn { idle .shuttingDown with shutdownCount := 1, turns := [.issue] }) := by
  refine ⟨⟨_, rfl, rfl, by decide⟩, ?_, fun _ h => Turn.noConfusion h⟩
  constructor <;> first | decide | exact fun h => absurd h (by decide)

/-- EveryCompletionEndsTheExchange. -/
theorem witness_completes :
    Inv { inFlight [0x02] (reply []) (polling .accel) with turns := [.complete (.fail .timeout)] } ∧
    (inFlight [0x02] (reply []) (polling .accel)).busy = true ∧
    nextTurn { inFlight [0x02] (reply []) (polling .accel) with turns := [.complete (.fail .timeout)] } = .complete (.fail .timeout) := by
  refine ⟨?_, rfl, rfl⟩
  constructor <;> first | decide | exact fun _ => ⟨rfl, rfl, rfl⟩

/-- LinkStateTransitions: a step that makes each of its kinds of change but the first (which `witness_step_in_flight` makes). -/
theorem witness_transitions :
    after State.linkState (step { idle .uninitialized with turns := [.host ⟨0x1, 0, 0⟩] }) = some .handshaking ∧
    after State.linkState (step { idle .uninitialized with turns := [.host ⟨0x3, 0, 0⟩] }) = some .closed ∧
    after State.linkState
      (step { inFlight [0xFF, 0xFF] (.fail .timeout) (idle .handshaking) with turns := [.complete (reply [0x00, 0xFF, 0x00])] }) =
      some .ready ∧
    after State.linkState (step { idle .handshaking with termPending := true, turns := [.issue] }) = some .shuttingDown ∧
    after State.linkState
      (step { inFlight [0x5A, 0xC3] (reply []) { idle .shuttingDown with shutdownCount := 2 } with turns := [.complete (reply [])] }) =
      some .closed := by decide

/-- TimersSetTheirBit: the three clauses. -/
theorem witness_timers :
    ({ idle .handshaking with turns := [.probeDelay] } : State).turns = [.probeDelay] ∧
    ({ idle .ready with turns := [.pollTick] } : State).linkState = .ready ∧ (idle .closed).linkState ≠ .ready := by decide

/-- LatestVelocityIsSent: the two commands of section 5's last vectors. -/
theorem witness_latest :
    let s : State :=
      { idle .ready with turns := [.host ⟨0x2, 0x3F800000, 0x40000000⟩, .host ⟨0x2, 0x40400000, 0x40800000⟩, .issue] }
    isFinite 0x3F800000 = true ∧ isFinite 0x40000000 = true ∧ isFinite 0x40400000 = true ∧ isFinite 0x40800000 = true ∧
    s.linkState = .ready ∧ s.busy = false ∧ s.busOpen = true ∧ s.termPending = false ∧ s.ackPending = false ∧
    s.cycleActive = false := by decide

/-- HandshakeReachesReadyOnTheConfirmingReply: E2's replies. -/
theorem witness_handshake :
    let os : List XferOutcome := [reply [0x01, 0x02, 0x03], .fail .iofail]
    let s : State :=
      { idle .handshaking with
        turns := os.flatMap (fun x => [.issue, .complete x, .probeDelay]) ++ [.issue, .complete (reply [0x00, 0xFF, 0x00]), .issue] ++ [] }
    (∀ x ∈ os, ¬ Claims.Confirms x) ∧ Claims.Confirms (reply [0x00, 0xFF, 0x00]) ∧ s.linkState = .handshaking ∧ s.busOpen = true ∧
    s.busy = false ∧ s.probeWait = false ∧ s.termPending = false := by
  refine ⟨?_, ⟨_, rfl, by decide⟩, rfl, rfl, rfl, rfl, rfl⟩
  intro x hx
  rcases List.mem_cons.1 hx with rfl | hx
  · rintro ⟨R, h, h0, -⟩
    cases h
    exact absurd h0 (by decide)
  · rcases List.mem_cons.1 hx with rfl | hx
    · exact fun ⟨_, h, _⟩ => XferOutcome.noConfusion h
    · cases hx

/-- ShutdownSendsTwoFramesAndCloses. -/
theorem witness_two_frames :
    let s : State :=
      { idle .handshaking with termPending := true, turns := [.issue, .complete (.fail .timeout), .issue, .complete (reply [])] ++ [] }
    Inv s ∧ s.busy = false ∧ (s.linkState = .handshaking ∨ s.linkState = .ready) ∧ s.termPending = true := by
  refine ⟨?_, rfl, .inl rfl, rfl⟩
  constructor <;> first | decide | exact fun h => absurd h (by decide)

/-- ShutdownSendsTwoFramesAndCloses, the step lemma: a step that sends the frame (`witness_exchange_starts` has its other premises), one
that does not, and the one that leaves ShuttingDown. -/
theorem witness_shutdown_count :
    (∃ t, step { idle .shuttingDown with shutdownCount := 1, turns := [.issue] } = .next t ∧
      Claims.SendsShutdown { idle .shuttingDown with shutdownCount := 1, turns := [.issue] } t) ∧
    (∃ t, step { inFlight [0x5A, 0xC3] (reply []) { idle .shuttingDown with shutdownCount := 2 } with turns := [.complete (reply [])] } =
        .next t ∧
      ¬ Claims.SendsShutdown
        { inFlight [0x5A, 0xC3] (reply []) { idle .shuttingDown with shutdownCount := 2 } with turns := [.complete (reply [])] } t ∧
      t.linkState ≠ .shuttingDown) :=
  ⟨⟨_, rfl, rfl, rfl, by decide⟩, ⟨_, rfl, fun h => Bool.noConfusion h.1, by decide⟩⟩

/-- TerminateClosesWithinThreeExchanges, with an exchange in flight. -/
theorem witness_terminate_run :
    let s : State :=
      { inFlight [0x02] (reply []) (polling .accel) with
        turns := [.host ⟨0x3, 0, 0⟩, .complete (.fail .timeout), .issue, .complete (reply []), .issue, .complete (reply [])] ++ [] }
    Inv s ∧ (s.linkState = .handshaking ∨ s.linkState = .ready) := by
  refine ⟨?_, .inr rfl⟩
  constructor <;> first | decide | exact fun _ => ⟨rfl, rfl, rfl⟩

/-- SequenceLaw: a run of two steps that finishes a cycle. -/
theorem witness_sequence :
    let s : State :=
      { inFlight [0x02] (reply []) (polling .accel) with turns := [.host ⟨0x0, 0, 0⟩, .complete (.fail .timeout)] }
    2 ≤ s.turns.length ∧ (∀ u ∈ s.turns.take 2, Claims.notReset u) ∧
      ∃ t, Host.Core.run Sys2Proof.core 2 s = .next t ∧ t.seq = 1 := by
  refine ⟨by decide, ?_, _, rfl, by decide⟩
  intro u hu p h
  subst h
  simp at hu

/-- FmulRoundsToNearestEven: a finite result and an overflow. -/
theorem witness_fmul :
    isFinite 0x3F800000 = true ∧ isFinite Config.kG = true ∧ isFinite (fmul32 0x3F800000 Config.kG) = true ∧
    isFinite 0x7F7FFFFF = true ∧ isFinite (fmul32 0x7F7FFFFF Config.kG) = false := by decide +kernel

/-- FmulSpecialOperands, ConfigurationFunctionsMeetTheirProperties, OrientationCornerCases: each kind of operand. -/
theorem witness_specials :
    isNaN 0x7FC00001 = true ∧ isInf 0x7F800000 = true ∧ isZero 0x80000000 = true ∧ isFinite 0x00000001 = true ∧
    isNaN 0x3F800000 = false ∧ isZero 0x3F800000 = false ∧ isFinite 0x7FC00000 = false := by decide

/-- The state after `m` steps, or the first one where a step stops. -/
def along (s : State) (m : Nat) : State :=
  match Host.Core.run Sys2Proof.core m s with
  | .next t => t
  | .fault _ => s
  | .refused _ => s

/-- Where `n` steps go on, the states along them are the states of a run. -/
theorem along_leads {s : State} (n : Nat) {t : State} (h : Host.Core.run Sys2Proof.core n s = .next t) :
    ∀ m, m < n → Leads (along s m) (along s (m + 1)) := by
  induction n generalizing t with
  | zero => exact fun m hm => absurd hm (Nat.not_lt_zero m)
  | succ n ih =>
    obtain ⟨u, hu, hl⟩ := run_last Sys2Proof.core n h
    intro m hm
    by_cases hlast : m < n
    · exact ih hu m hlast
    · obtain rfl : m = n := by omega
      simpa only [along, hu, h] using Leads.of_step hl

/-- Ready, a cycle due, and the ten turns of a cycle in which every exchange is answered with zeros. -/
def cycleDue : State :=
  { idle .ready with
    pollDue := true
    turns := (List.replicate 5 [.issue, .complete (reply [])]).flatten }

/-- RecordsNeverMixTwoCycles: a run of one cycle, whose last step emits the record. -/
theorem witness_cycle :
    Inv (along cycleDue 0) ∧ (along cycleDue 0).cycleActive = false ∧
    (∀ m, m ≤ 9 → Leads (along cycleDue m) (along cycleDue (m + 1))) ∧
    ∃ x, (along cycleDue 10).events = (along cycleDue 9).events ++ [.record x] := by
  refine ⟨?_, by decide, ?_, ⟨_, rfl⟩⟩
  · constructor <;> first | decide | exact fun h => absurd h (by decide)
  · exact fun m hm => along_leads 10 rfl m (by omega)

/-- A probe in flight fails, its delay ends, and from then on the Transport's turns find nothing in flight. -/
def probing : Nat → State
  | 0 => { inFlight [0xFF, 0xFF] (reply []) (idle .handshaking) with turns := [.complete (reply [])] }
  | 1 =>
    { inFlight [0xFF, 0xFF] (reply []) (idle .handshaking) with
      busy := false
      probeWait := true
      probeFails := 1
      turns := [.probeDelay] }
  | _ =>
    { inFlight [0xFF, 0xFF] (reply []) (idle .handshaking) with
      busy := false
      probeFails := 1
      turns := [.complete (reply [])] }

/-- FairRunsEndExchangesAndDelays: a fair run with an exchange in flight at its start and the probe delay running after one step. -/
theorem witness_fair : FairRun probing ∧ (probing 0).busy = true ∧ (probing 1).probeWait = true := by
  refine ⟨⟨?_, ?_, ?_⟩, rfl, rfl⟩
  · intro n
    match n with
    | 0 => exact ⟨_, rfl, rfl⟩
    | 1 => exact ⟨_, rfl, rfl⟩
    | _ + 2 => exact ⟨_, rfl, rfl⟩
  · intro n h
    exact absurd (h (n + 2) (by omega)) Bool.noConfusion
  · intro n h
    exact absurd (h (n + 2) (by omega)) Bool.noConfusion

end Sys2Proof.Tests
end

section
/-! SUPPORT. 00_scope.md R11 and R12: a reset refuses ill-formed parameters, and no other step writes the configuration. -/

namespace Sys2Proof.Machine

/-! ## The refusal of ill-formed parameters (R11) -/

/-- A step whose turn is a RESET is that RESET. -/
theorem step_of_reset {s : State} {p : Params} (h : nextTurn s = .reset p) : step s = runReset p (takeTurn s) := by
  simp [step, h, runTurn]

theorem runReset_of_not_wf {p : Params} (h : p.wf = false) (s : State) : runReset p s = .refused .illFormedConfig := by
  simp [runReset, Params.toConfig_of_not_wf h]

/-- A configured opcode that is also a fixed one, or two equal configured opcodes, make the parameters ill-formed. -/
theorem wf_eq_false_of_opcode_clash {p : Params}
    (h : p.opAck ∈ Config.fixedOpcodes ∨ p.opShutdown ∈ Config.fixedOpcodes ∨ p.opAck = p.opShutdown) : p.wf = false := by
  rw [Bool.eq_false_iff]
  intro hwf
  obtain ⟨hAck, hShutdown, hne, -⟩ := (Params.wf_iff p).1 hwf
  rcases h with h | h | h
  · exact hAck h
  · exact hShutdown h
  · exact hne h

/-- Settles O16: an opcode clash makes the parameters ill-formed, and a RESET refuses those. -/
theorem illFormedParametersAreRefused : Obligations.IllFormedParametersAreRefused := by
  intro s p hturn hclash
  rw [step_of_reset hturn]
  exact runReset_of_not_wf (wf_eq_false_of_opcode_clash hclash) _

/-! ## The configuration is held between resets (R12) -/

/-- Where `r` goes on from `s`, it goes on with the configuration of `s`. -/
def KeepsCfg (s : State) (r : Result) : Prop := ∀ t, r = .next t → t.cfg = s.cfg

@[simp] theorem keepsCfg_next {s t : State} : KeepsCfg s (.next t) ↔ t.cfg = s.cfg :=
  ⟨fun h => h t rfl, fun h _ ht => Host.Outcome.next.inj ht ▸ h⟩

@[simp] theorem keepsCfg_fault (s : State) (f : Fault) : KeepsCfg s (.fault f) := fun _ h => nomatch h

/-- A frame's meaning keeps the configuration where its issue and its completion do. -/
theorem exchange_keepsCfg {i : Instr} {issue : State → Result} {complete : State → State} {s : State}
    (hissue : KeepsCfg s (issue s)) (hcomplete : ∀ u, (complete u).cfg = u.cfg) :
    KeepsCfg s (exchange i issue complete s) := by
  intro t h
  rcases exchange_next h with ⟨-, -, ht⟩ | ⟨-, -, rfl⟩
  · exact hissue t ht
  · rw [hcomplete, deliver_cfg]

/-! The completions. -/

@[simp] theorem probeFailed_cfg (s : State) : (completePing.probeFailed s).cfg = s.cfg := rfl

@[simp] theorem completePing_cfg (s : State) : (completePing s).cfg = s.cfg := by
  unfold completePing
  split
  · split <;> simp
  · simp

@[simp] theorem completeAck_cfg (s : State) : (completeAck s).cfg = s.cfg := rfl

@[simp] theorem completeSetup_cfg (s : State) : (completeSetup s).cfg = s.cfg := by
  unfold completeSetup
  split <;> simp

@[simp] theorem completeAccel_cfg (s : State) : (completeAccel s).cfg = s.cfg := by
  unfold completeAccel
  split
  · split <;> simp
  · simp

@[simp] theorem completeGyro_cfg (s : State) : (completeGyro s).cfg = s.cfg := by
  unfold completeGyro
  split
  · split <;> simp
  · simp

@[simp] theorem completePosition_cfg (s : State) : (completePosition s).cfg = s.cfg := by
  unfold completePosition
  split
  · split <;> simp
  · simp

@[simp] theorem completeDeadReckoning_cfg (s : State) : (completeDeadReckoning s).cfg = s.cfg := by
  unfold completeDeadReckoning
  split
  · split <;> simp
  · simp

@[simp] theorem completeShutdown_cfg (s : State) : (completeShutdown s).cfg = s.cfg := by
  unfold completeShutdown
  split <;> simp

/-! The issues that have a definition of their own. -/

theorem issuePoll_keepsCfg (op : Byte) (s : State) : KeepsCfg s (issuePoll op s) := by
  simp [issuePoll]

theorem issueSetup_keepsCfg (s : State) : KeepsCfg s (issueSetup s) := by
  simp only [issueSetup, issuePoll, keepsCfg_next, sendFrame_cfg]
  split <;> simp

theorem issueVelocity_keepsCfg (lin ang : Word) (s : State) : KeepsCfg s (issueVelocity lin ang s) := by
  unfold issueVelocity
  split <;> simp

theorem issueShutdown_keepsCfg (s : State) : KeepsCfg s (issueShutdown s) := by
  simp only [issueShutdown, keepsCfg_next, sendShutdown_cfg]
  split <;> simp

/-! The frames whose issue is written in their meaning. -/

theorem execPing_keepsCfg (s : State) : KeepsCfg s (execPing s) := by
  unfold execPing
  exact exchange_keepsCfg (keepsCfg_next.2 (sendFrame_cfg _ s)) completePing_cfg

theorem execAck_keepsCfg (s : State) : KeepsCfg s (execAck s) := by
  unfold execAck
  exact exchange_keepsCfg (keepsCfg_next.2 (sendFrame_cfg _ s)) completeAck_cfg

/-! The host commands whose answer depends on the state. -/

theorem execStart_keepsCfg (arg0 arg1 : Word) (s : State) : KeepsCfg s (execStart arg0 arg1 s) := by
  unfold execStart
  split <;> simp

theorem execSetVelocity_keepsCfg (lin ang : Word) (s : State) : KeepsCfg s (execSetVelocity lin ang s) := by
  unfold execSetVelocity
  split
  · simp
  · split <;> simp

theorem execTerminate_keepsCfg (arg0 arg1 : Word) (s : State) : KeepsCfg s (execTerminate arg0 arg1 s) := by
  unfold execTerminate
  split <;> simp

/-- No instruction writes the configuration. -/
theorem exec_keepsCfg (i : Instr) (s : State) : KeepsCfg s (exec i s) := by
  cases i with
  | velocity lin ang => exact exchange_keepsCfg (issueVelocity_keepsCfg lin ang s) (surfaceError_cfg _)
  | sensorSetup => exact exchange_keepsCfg (issueSetup_keepsCfg s) completeSetup_cfg
  | sensorAccel => exact exchange_keepsCfg (issuePoll_keepsCfg _ s) completeAccel_cfg
  | sensorGyro => exact exchange_keepsCfg (issuePoll_keepsCfg _ s) completeGyro_cfg
  | sensorPosition => exact exchange_keepsCfg (issuePoll_keepsCfg _ s) completePosition_cfg
  | sensorDeadReckoning => exact exchange_keepsCfg (issuePoll_keepsCfg _ s) completeDeadReckoning_cfg
  | ping => exact execPing_keepsCfg s
  | ack => exact execAck_keepsCfg s
  | shutdown => exact exchange_keepsCfg (issueShutdown_keepsCfg s) completeShutdown_cfg
  | start arg0 arg1 => exact execStart_keepsCfg arg0 arg1 s
  | setVelocity lin ang => exact execSetVelocity_keepsCfg lin ang s
  | terminate arg0 arg1 => exact execTerminate_keepsCfg arg0 arg1 s
  | hostReservedZero arg0 arg1 => exact keepsCfg_next.2 (respond_cfg _ s)
  | hostReservedLow low arg0 arg1 => exact keepsCfg_next.2 (respond_cfg _ s)
  | hostReservedHigh low arg0 arg1 => exact keepsCfg_next.2 (respond_cfg _ s)

@[simp] theorem takeTurn_cfg (s : State) : (takeTurn s).cfg = s.cfg := by
  rw [takeTurn_eq]

/-- No turn but a RESET writes the configuration. -/
theorem runTurn_keepsCfg {u : Turn} (hu : Claims.notReset u) (s : State) : KeepsCfg s (runTurn u s) := by
  intro t h
  rcases runTurn_next h with ⟨-, ⟨-, rfl⟩ | ⟨i, -, ht⟩⟩ | ⟨w, -, ht⟩ | ⟨o, -, ⟨-, rfl⟩ | ⟨i, -, -, ht⟩⟩ |
    ⟨-, rfl⟩ | ⟨-, rfl⟩ | ⟨p, -, rfl, -⟩
  · rfl
  · exact exec_keepsCfg i s t ht
  · exact exec_keepsCfg (decodeHost w) s t ht
  · rfl
  · exact exec_keepsCfg i { s with outcome := o } t ht
  · rfl
  · rfl
  · exact absurd rfl (hu p)

/-- Settles O17, turn by turn: no instruction and no timer writes the configuration. -/
theorem parametersAreHeldBetweenResets : Obligations.ParametersAreHeldBetweenResets := by
  intro s t hstep hturn
  rw [← takeTurn_cfg s]
  exact runTurn_keepsCfg hturn (takeTurn s) t hstep

end Sys2Proof.Machine
end

section
/-! SUPPORT. 10_state.md R48 and R49: each field of the status word is read back by skipping the fields below it. -/

namespace Sys2Proof.Machine

/-! ## The fields of the status word (R48) -/

theorem statusWord_linkState (s : State) : (statusWord s).extractLsb' 0 3 = s.linkState.code :=
  BitVec.extractLsb'_append_eq_right

theorem statusWord_cycleStep (s : State) : (statusWord s).extractLsb' 9 3 = s.cycleStep.code := by
  simp only [statusWord, BitVec.extractLsb'_append_eq_of_le, BitVec.extractLsb'_append_eq_right,
    Nat.reduceLeDiff, Nat.reduceSub]

theorem statusWord_shutdownCount (s : State) :
    ((statusWord s).extractLsb' 13 2).toNat = s.shutdownCount.val := by
  simp only [statusWord, BitVec.extractLsb'_append_eq_of_le, BitVec.extractLsb'_append_eq_right,
    BitVec.toNat_ofFin, Nat.reduceLeDiff, Nat.reduceSub]

theorem statusWord_reserved (s : State) : (statusWord s).extractLsb' 16 16 = 0 := by
  simp only [statusWord, BitVec.extractLsb'_append_eq_of_le, BitVec.extractLsb'_eq_self, BitVec.ofNat_eq_ofNat,
    Nat.reduceLeDiff, Nat.reduceSub]

/-- The fields of one bit: at such a bit every append of the status word is decided to be below it or to hold it. -/
theorem statusWord_flags (s : State) :
    (statusWord s).getLsbD 3 = s.busOpen ∧ (statusWord s).getLsbD 4 = s.busy ∧
    (statusWord s).getLsbD 5 = s.ackPending ∧ (statusWord s).getLsbD 6 = s.slotValid ∧
    (statusWord s).getLsbD 7 = s.pollDue ∧ (statusWord s).getLsbD 8 = s.cycleActive ∧
    (statusWord s).getLsbD 12 = s.termPending ∧ (statusWord s).getLsbD 15 = s.probeWait := by
  simp only [statusWord, BitVec.getLsbD_append, BitVec.getLsbD_ofBool, Nat.reduceLT, Nat.reduceSub, if_true, if_false,
    decide_true, Bool.true_and, and_self]

/-- Settles O13, field by field. The clauses about the reset state, the numbers of the codes and the ports are closed: each is
its definition, evaluated. -/
theorem statusWordShowsTheState : Obligations.StatusWordShowsTheState := by
  refine ⟨rfl, rfl, rfl, rfl, fun s => ?_⟩
  obtain ⟨hOpen, hBusy, hAck, hSlot, hPoll, hActive, hTerm, hProbe⟩ := statusWord_flags s
  exact ⟨rfl, rfl, statusWord_linkState s, hOpen, hBusy, hAck, hSlot, hPoll, hActive, statusWord_cycleStep s, hTerm,
    statusWord_shutdownCount s, hProbe, statusWord_reserved s⟩

end Sys2Proof.Machine
end

section
/-! SUPPORT. 20_memory.md R77: each decoder's answer depends on the bytes below its length alone. -/

namespace Sys2Proof

/-- A field lies below a length that reaches its last byte, so frames that agree below that length hold the same field. -/
theorem be32Get_congr {F G : Frame} {len o : Nat} (hagree : ∀ i, i < len → F.get i = G.get i) (ho : o + 3 < len) :
    be32Get F o = be32Get G o := by
  simp only [be32Get, hagree o (by omega), hagree (o + 1) (by omega), hagree (o + 2) (by omega), hagree (o + 3) ho]

theorem decodeFloatTriplet_congr {F G : Frame} {len : Nat} (hagree : ∀ i, i < len → F.get i = G.get i) :
    decodeFloatTriplet F len = decodeFloatTriplet G len := by
  unfold decodeFloatTriplet
  split
  · rfl
  · rw [be32Get_congr hagree (o := 1) (by omega), be32Get_congr hagree (o := 5) (by omega),
      be32Get_congr hagree (o := 9) (by omega)]

theorem decodeFloatPair_congr {F G : Frame} {len : Nat} (hagree : ∀ i, i < len → F.get i = G.get i) :
    decodeFloatPair F len = decodeFloatPair G len := by
  unfold decodeFloatPair
  split
  · rfl
  · rw [be32Get_congr hagree (o := 1) (by omega), be32Get_congr hagree (o := 5) (by omega)]

theorem decodeHandshakeReply_congr {F G : Frame} {len : Nat} (hagree : ∀ i, i < len → F.get i = G.get i) :
    decodeHandshakeReply F len = decodeHandshakeReply G len := by
  unfold decodeHandshakeReply
  split
  · rfl
  · rw [hagree 0 (by omega), hagree 1 (by omega), hagree 2 (by omega)]

/-- Settles O9, decoder by decoder: a length that passes the check reaches every byte the decoder reads. -/
theorem decodersReadNoByteBeyondTheLength : Obligations.DecodersReadNoByteBeyondTheLength := by
  intro F G len hagree
  exact ⟨decodeFloatTriplet_congr hagree, decodeFloatPair_congr hagree, decodeHandshakeReply_congr hagree⟩

end Sys2Proof
end

section
/-! SUPPORT. 20_memory.md R73: the bits of a byte and of a frame in wire order, and what they make when they arrive. -/

namespace Sys2Proof.Machine

/-! ## The bits of a byte -/

@[simp] theorem length_byteBits (b : Byte) : (byteBits b).length = 8 := by
  simp [byteBits]

theorem getElem?_byteBits (b : Byte) {j : Nat} (hj : j < 8) : (byteBits b)[j]? = some (b.getLsbD (7 - j)) := by
  simp [byteBits, hj]

/-- Each arriving bit shifts in at the bottom: bit `k` of the byte is the bit that arrived `k` before the last. -/
theorem getLsbD_bitsByte (bs : List Bool) {k : Nat} (hk : k < 8) :
    (bitsByte bs).getLsbD k = (bs.reverse[k]?).getD false := by
  induction bs using List.reverseRecOn generalizing k with
  | nil => simp [bitsByte]
  | append_singleton bs b ih =>
    have hstep : bitsByte (bs ++ [b]) = (bitsByte bs).shiftLeft 1 ||| (BitVec.ofBool b).setWidth 8 := by
      simp [bitsByte]
    cases k with
    | zero => simp [hstep]
    | succ k => simp [hstep, hk, -BitVec.getLsbD_eq_getElem, ih (by omega : k < 8)]

/-- The bits of a byte, arriving in wire order, make the byte. -/
@[simp] theorem bitsByte_byteBits (b : Byte) : bitsByte (byteBits b) = b := by
  refine BitVec.eq_of_getLsbD_eq fun k hk => ?_
  have hlast : (byteBits b).reverse[k]? = some (b.getLsbD k) := by
    rw [List.getElem?_reverse (by simpa using hk), length_byteBits, getElem?_byteBits b (by omega)]
    congr 2
    omega
  rw [getLsbD_bitsByte _ hk, hlast, Option.getD_some]

/-! ## The bits of a frame -/

/-- In a run of bytes, bits `8 * i` to `8 * i + 7` are those of byte `i`. -/
theorem take_drop_flatMap_byteBits (bs : List Byte) {i : Nat} (hi : i < bs.length) :
    ((bs.flatMap byteBits).drop (8 * i)).take 8 = byteBits bs[i] := by
  induction bs generalizing i with
  | nil => exact absurd hi (Nat.not_lt_zero i)
  | cons b bs ih =>
    cases i with
    | zero => simp
    | succ i =>
      have hskip : 8 * (i + 1) = (byteBits b).length + 8 * i := by
        rw [length_byteBits]
        omega
      rw [List.flatMap_cons, hskip, List.drop_length_add_append, ih (Nat.lt_of_succ_lt_succ hi), List.getElem_cons_succ]

@[simp] theorem length_wireBits (F : Frame) : (wireBits F).length = 128 := by
  simp [wireBits, List.length_flatMap, F.size]

theorem take_drop_wireBits (F : Frame) {i : Nat} (hi : i < 16) :
    ((wireBits F).drop (8 * i)).take 8 = byteBits (F.get i) := by
  have hlen : i < F.bytes.length := F.size ▸ hi
  rw [wireBits, take_drop_flatMap_byteBits F.bytes hlen, Frame.get, List.getD_eq_getElem _ _ hlen]

theorem getElem?_wireBits (F : Frame) {i j : Nat} (hi : i < 16) (hj : j < 8) :
    (wireBits F)[8 * i + j]? = some ((F.get i).getLsbD (7 - j)) := by
  rw [← List.getElem?_drop, ← List.getElem?_take_of_lt hj, take_drop_wireBits F hi, getElem?_byteBits _ hj]

@[simp] theorem frameOfWire_wireBits (F : Frame) : frameOfWire (wireBits F) = F := by
  refine Frame.ext_get fun i hi => ?_
  rw [frameOfWire, Frame.of_get _ hi, take_drop_wireBits F hi, bitsByte_byteBits]

/-- Settles O11: the wire form cut every 8 bits is the frame's bytes. -/
theorem wireOrderIsMsbFirst : Obligations.WireOrderIsMsbFirst := by
  intro F
  exact ⟨length_wireBits F, fun _ _ => getElem?_wireBits F, frameOfWire_wireBits F⟩

end Sys2Proof.Machine
end

section
/-! SUPPORT. 40_codec.md R140: what the big-endian field primitive stores and what it reads back, at every offset whose field
lies inside a frame. -/

namespace Sys2Proof

/-! ## What a field's store leaves in each byte -/

theorem be32Put_get_outside (F : Frame) (v : Word) {o i : Nat} (h : i < o ∨ o + 4 ≤ i) :
    (be32Put F o v).get i = F.get i := by
  rw [be32Put, Frame.put_get_ne _ _ (by omega), Frame.put_get_ne _ _ (by omega), Frame.put_get_ne _ _ (by omega),
    Frame.put_get_ne _ _ (by omega)]

theorem be32Put_get_first (F : Frame) (v : Word) {o : Nat} (ho : o + 3 < 16) :
    (be32Put F o v).get o = v.extractLsb' 24 8 := by
  rw [be32Put, Frame.put_get_ne _ _ (by omega), Frame.put_get_ne _ _ (by omega), Frame.put_get_ne _ _ (by omega),
    Frame.put_get_same _ _ _ (by omega)]

theorem be32Put_get_second (F : Frame) (v : Word) {o : Nat} (ho : o + 3 < 16) :
    (be32Put F o v).get (o + 1) = v.extractLsb' 16 8 := by
  rw [be32Put, Frame.put_get_ne _ _ (by omega), Frame.put_get_ne _ _ (by omega), Frame.put_get_same _ _ _ (by omega)]

theorem be32Put_get_third (F : Frame) (v : Word) {o : Nat} (ho : o + 3 < 16) :
    (be32Put F o v).get (o + 2) = v.extractLsb' 8 8 := by
  rw [be32Put, Frame.put_get_ne _ _ (by omega), Frame.put_get_same _ _ _ (by omega)]

theorem be32Put_get_fourth (F : Frame) (v : Word) {o : Nat} (ho : o + 3 < 16) :
    (be32Put F o v).get (o + 3) = v.extractLsb' 0 8 :=
  Frame.put_get_same _ _ _ ho

/-! ## What a field's read gives -/

/-- A pattern's four bytes, joined most significant first, are the pattern. -/
theorem word_eq_append_bytes (v : Word) :
    v.extractLsb' 24 8 ++ v.extractLsb' 16 8 ++ v.extractLsb' 8 8 ++ v.extractLsb' 0 8 = v := by
  rw [BitVec.extractLsb'_append_extractLsb'_eq_extractLsb' (by decide),
    BitVec.extractLsb'_append_extractLsb'_eq_extractLsb' (by decide),
    BitVec.extractLsb'_append_extractLsb'_eq_extractLsb' (by decide)]
  exact BitVec.extractLsb'_eq_self

theorem be32Get_be32Put_same (F : Frame) (v : Word) {o : Nat} (ho : o + 3 < 16) : be32Get (be32Put F o v) o = v := by
  rw [be32Get, be32Put_get_first F v ho, be32Put_get_second F v ho, be32Put_get_third F v ho, be32Put_get_fourth F v ho,
    word_eq_append_bytes]

/-- A field that does not overlap the one stored is unchanged. -/
theorem be32Get_be32Put_disjoint (F : Frame) (v : Word) {o p : Nat} (h : p + 4 ≤ o ∨ o + 4 ≤ p) :
    be32Get (be32Put F o v) p = be32Get F p := by
  simp only [be32Get]
  rw [be32Put_get_outside F v (by omega), be32Put_get_outside F v (by omega), be32Put_get_outside F v (by omega),
    be32Put_get_outside F v (by omega)]

/-- Settles O7: at each of the three offsets the whole field lies inside the frame. -/
theorem fieldPutThenGetMovesThePattern : Obligations.FieldPutThenGetMovesThePattern := by
  intro F o v hoffset
  have ho : o + 3 < 16 := by omega
  exact ⟨rfl, be32Get_be32Put_same F v ho, be32Put_get_first F v ho, be32Put_get_second F v ho, be32Put_get_third F v ho,
    be32Put_get_fourth F v ho, fun _ => be32Put_get_outside F v⟩

end Sys2Proof
end

section
/-! SUPPORT. 40_codec.md R141 to R146, R150 to R153: the bytes of each encoder's frame, and what the decoders answer. -/

namespace Sys2Proof

/-! ## The encoders (R142 to R146) -/

theorem isFinite_iff (v : Word) : isFinite v = true ↔ v.extractLsb' 23 8 ≠ 0xFF :=
  bne_iff_ne

theorem isFinite_eq_false_iff (v : Word) : isFinite v = false ↔ v.extractLsb' 23 8 = 0xFF :=
  bne_eq_false_iff_eq

theorem encodeVelocity_of_finite {lin ang : Word} (hlin : isFinite lin = true) (hang : isFinite ang = true) :
    encodeVelocity lin ang = .ok (velocityFrame lin ang) := by
  simp [encodeVelocity, hlin, hang]

theorem encodeVelocity_of_not_finite {lin ang : Word} (h : isFinite lin = false ∨ isFinite ang = false) :
    encodeVelocity lin ang = .error .encodeOutOfRange := by
  rcases h with h | h <;> simp [encodeVelocity, h]

/-- The layout of R101. The stores are at constant offsets into a constant frame, so the list of bytes is evaluated. -/
theorem velocityFrame_bytes (lin ang : Word) :
    (velocityFrame lin ang).bytes =
      [0x00, lin.extractLsb' 24 8, lin.extractLsb' 16 8, lin.extractLsb' 8 8, lin.extractLsb' 0 8,
        ang.extractLsb' 24 8, ang.extractLsb' 16 8, ang.extractLsb' 8 8, ang.extractLsb' 0 8, 0, 0, 0, 0, 0, 0, 0] :=
  rfl

/-- Settles O5: finite operands have the frame of R101, and one operand that is not finite is enough for the error. -/
theorem velocityIsEncodedBitForBit : Obligations.VelocityIsEncodedBitForBit := by
  intro lin ang
  constructor
  · rintro ⟨hlin, hang⟩
    exact ⟨velocityFrame lin ang, encodeVelocity_of_finite ((isFinite_iff lin).2 hlin) ((isFinite_iff ang).2 hang),
      velocityFrame_bytes lin ang⟩
  · intro h
    exact encodeVelocity_of_not_finite (h.imp (isFinite_eq_false_iff lin).2 (isFinite_eq_false_iff ang).2)

theorem encodePoll_bytes (op : Byte) : (encodePoll op).bytes = op :: List.replicate 15 0x00 := rfl

theorem encodeProbe_bytes : encodeProbe.bytes = 0xFF :: 0xFF :: List.replicate 14 0x00 := rfl

theorem encodeShutdown_bytes (c : Config) :
    (encodeShutdown c).bytes = c.opShutdown :: c.shutdownSentinel :: List.replicate 14 0x00 := rfl

/-- Settles O6, frame by frame; the ACK frame is a poll's with the configured opcode. -/
theorem fixedFramesHaveTheirLayout : Obligations.FixedFramesHaveTheirLayout := by
  intro c op
  exact ⟨encodePoll_bytes op, encodeProbe_bytes, encodePoll_bytes c.opAck, encodeShutdown_bytes c⟩

/-! ## The decoders (R150 to R152) -/

theorem Frame.bytes_eq_map_get (F : Frame) : F.bytes = (List.range 16).map F.get :=
  congrArg Frame.bytes (Frame.ext_get (G := Frame.of F.get) fun _ hi => (Frame.of_get F.get hi).symm)

/-- The handshake decoder's test, as a test on the first three bytes together. -/
theorem Frame.take_three_eq_iff (F : Frame) (a b c : Byte) :
    F.bytes.take 3 = [a, b, c] ↔ F.get 0 = a ∧ F.get 1 = b ∧ F.get 2 = c := by
  have htake : F.bytes.take 3 = [F.get 0, F.get 1, F.get 2] := by
    rw [F.bytes_eq_map_get]
    rfl
  simp [htake]

/-- Settles O8. The float decoders are the stated answers as they stand; the handshake decoder's differs in how it says its test. -/
theorem decodersCheckTheLengthFirst : Obligations.DecodersCheckTheLengthFirst := by
  intro F len _
  refine ⟨rfl, rfl, ?_⟩
  simp only [decodeHandshakeReply, Frame.take_three_eq_iff]

/-! ## The velocity round trip (R153) -/

theorem be32Get_velocityFrame_lin (lin ang : Word) : be32Get (velocityFrame lin ang) 1 = lin := by
  rw [velocityFrame, be32Get_be32Put_disjoint _ _ (by decide), be32Get_be32Put_same _ _ (by decide)]

theorem be32Get_velocityFrame_ang (lin ang : Word) : be32Get (velocityFrame lin ang) 5 = ang :=
  be32Get_be32Put_same _ _ (by decide)

theorem decodeFloatPair_velocityFrame (lin ang : Word) :
    decodeFloatPair (velocityFrame lin ang) 16 = .ok (lin, ang) := by
  rw [decodeFloatPair, if_neg (by decide), be32Get_velocityFrame_lin, be32Get_velocityFrame_ang]

/-- Settles O10: finite operands have a frame, and its two fields hold them. -/
theorem velocityRoundTripIsExact : Obligations.VelocityRoundTripIsExact := by
  intro lin ang hlin hang
  exact ⟨velocityFrame lin ang, encodeVelocity_of_finite hlin hang, decodeFloatPair_velocityFrame lin ang⟩

end Sys2Proof
end

section
/-! SUPPORT. 41_transport.md R182 to R184: the pins of an exchange are one clock cycle for each pair of bits, and each line is
sampled once in a cycle. -/

namespace Sys2Proof.Machine

/-! ## One clock cycle -/

/-- The half period with SCLK low, in which the pair of bits (MOSI, MISO) is driven. -/
def lowHalf (b : Bool × Bool) : PinLevels := ⟨false, false, b.1, b.2⟩

/-- The half period with SCLK high, with the same pair on the lines. -/
def highHalf (b : Bool × Bool) : PinLevels := ⟨false, true, b.1, b.2⟩

/-- What one pair of bits takes on the pins (R184). -/
def clockCycle (b : Bool × Bool) : List PinLevels := [lowHalf b, highHalf b]

theorem exchangePins_eq_flatMap (F G : Frame) : exchangePins F G = ((wireBits F).zip (wireBits G)).flatMap clockCycle := rfl

theorem cs_of_mem_clockCycle {b : Bool × Bool} {p : PinLevels} (h : p ∈ clockCycle b) : p.cs = false := by
  obtain rfl | rfl : p = lowHalf b ∨ p = highHalf b := by simpa [clockCycle] using h
  · rfl
  · rfl

/-! ## What is sampled -/

theorem sampled_cons_rising (line : PinLevels → Bool) {p q : PinLevels} (hp : p.sclk = false) (hq : q.sclk = true)
    (ps : List PinLevels) : sampled line (p :: q :: ps) = line q :: sampled line (q :: ps) := by
  simp [sampled, hp, hq]

/-- No rising edge leaves a half period in which SCLK is already high. -/
theorem sampled_cons_high (line : PinLevels → Bool) {p : PinLevels} (hp : p.sclk = true) (ps : List PinLevels) :
    sampled line (p :: ps) = sampled line ps := by
  cases ps with
  | nil => rfl
  | cons q qs => simp [sampled, hp]

/-- Each clock cycle has one rising edge, the one inside it: the next cycle begins with a falling edge. -/
theorem sampled_flatMap_clockCycle (line : PinLevels → Bool) (bs : List (Bool × Bool)) :
    sampled line (bs.flatMap clockCycle) = bs.map fun b => line (highHalf b) := by
  induction bs with
  | nil => rfl
  | cons b bs ih =>
    calc sampled line (lowHalf b :: highHalf b :: bs.flatMap clockCycle)
      _ = line (highHalf b) :: sampled line (highHalf b :: bs.flatMap clockCycle) := sampled_cons_rising line rfl rfl _
      _ = line (highHalf b) :: sampled line (bs.flatMap clockCycle) := by rw [sampled_cons_high line rfl]
      _ = line (highHalf b) :: bs.map (fun b => line (highHalf b)) := by rw [ih]

/-! ## The exchange -/

theorem length_exchangePins (F G : Frame) : (exchangePins F G).length = 2 * 128 := by
  simp [exchangePins_eq_flatMap, clockCycle, List.length_flatMap]

theorem cs_of_mem_exchangePins {F G : Frame} {p : PinLevels} (h : p ∈ exchangePins F G) : p.cs = false := by
  obtain ⟨b, -, hp⟩ := List.mem_flatMap.1 (exchangePins_eq_flatMap F G ▸ h)
  exact cs_of_mem_clockCycle hp

@[simp] theorem sampled_mosi_exchangePins (F G : Frame) : sampled PinLevels.mosi (exchangePins F G) = wireBits F := by
  rw [exchangePins_eq_flatMap, sampled_flatMap_clockCycle]
  exact List.map_fst_zip (by simp)

@[simp] theorem sampled_miso_exchangePins (F G : Frame) : sampled PinLevels.miso (exchangePins F G) = wireBits G := by
  rw [exchangePins_eq_flatMap, sampled_flatMap_clockCycle]
  exact List.map_snd_zip (by simp)

/-! ## The chip select between steps (R183) -/

theorem chipSelectLevel_eq_false_iff (s : State) : chipSelectLevel s = false ↔ s.busy = true := by
  simp [chipSelectLevel]

theorem chipSelectLevel_of_not_busy {s : State} (h : s.busy = false) : chipSelectLevel s = true := by
  simp [chipSelectLevel, h]

/-- No exchange is in flight on a released bus. -/
theorem Inv.not_busy_of_released {s : State} (h : Inv s) (hbus : s.busOpen = false) : s.busy = false := by
  rw [Bool.eq_false_iff]
  intro hbusy
  exact Bool.false_ne_true (hbus.symm.trans (h.busy_bus hbusy))

/-- Settles O12: the trace clock cycle by clock cycle, and the frames by the wire order of R73. -/
theorem exchangePinsCarryBothFrames : Obligations.ExchangePinsCarryBothFrames := by
  refine ⟨fun F G => ?_, chipSelectLevel_eq_false_iff, fun s hinv hbus => ?_⟩
  · rw [sampled_mosi_exchangePins, sampled_miso_exchangePins]
    exact ⟨length_exchangePins F G, fun _ => cs_of_mem_exchangePins, rfl, rfl, frameOfWire_wireBits F, frameOfWire_wireBits G⟩
  · exact chipSelectLevel_of_not_busy (hinv.not_busy_of_released hbus)

end Sys2Proof.Machine
end

section
/-! SUPPORT. 41_transport.md R189, 20_memory.md R81: `busy`, `TX` and `RX` are written by issues and completions alone, and no
issue is enabled while a frame is in flight. -/

namespace Sys2Proof.Machine

/-- The exchange stands in `t` as it does in `s`: `busy`, `TX` and `RX` are the same. -/
structure SameExchange (s t : State) : Prop where
  busy : t.busy = s.busy
  tx : t.tx = s.tx
  rx : t.rx = s.rx

theorem SameExchange.refl (s : State) : SameExchange s s := ⟨rfl, rfl, rfl⟩

theorem SameExchange.trans {s t u : State} (hst : SameExchange s t) (htu : SameExchange t u) : SameExchange s u :=
  ⟨htu.busy.trans hst.busy, htu.tx.trans hst.tx, htu.rx.trans hst.rx⟩

theorem sameExchange_takeTurn (s : State) : SameExchange s (takeTurn s) := by
  rw [takeTurn_eq]
  exact ⟨rfl, rfl, rfl⟩

theorem sameExchange_respond (r : ErrorCode) (s : State) : SameExchange s (respond r s) := ⟨rfl, rfl, rfl⟩

theorem sameExchange_probeDelayFires (s : State) : SameExchange s (probeDelayFires s) := ⟨rfl, rfl, rfl⟩

theorem sameExchange_pollTimerFires (s : State) : SameExchange s (pollTimerFires s) := ⟨rfl, rfl, rfl⟩

/-! ## The host commands (R81) -/

/-- Each branch of a host command answers `.next (respond r u)`, from a state `u` in which the exchange stands as in `s`. -/
theorem sameExchange_of_next_respond {r : ErrorCode} {s t u : State} (h : (.next (respond r u) : Result) = .next t)
    (hu : SameExchange s u) : SameExchange s t := by
  cases h
  exact hu.trans (sameExchange_respond r u)

theorem execStart_sameExchange (arg0 arg1 : Word) {s t : State} (h : execStart arg0 arg1 s = .next t) : SameExchange s t := by
  unfold execStart at h
  split at h <;> exact sameExchange_of_next_respond h ⟨rfl, rfl, rfl⟩

theorem execSetVelocity_sameExchange (lin ang : Word) {s t : State} (h : execSetVelocity lin ang s = .next t) :
    SameExchange s t := by
  unfold execSetVelocity at h
  split at h
  · exact sameExchange_of_next_respond h (.refl s)
  · split at h <;> exact sameExchange_of_next_respond h ⟨rfl, rfl, rfl⟩

theorem execTerminate_sameExchange (arg0 arg1 : Word) {s t : State} (h : execTerminate arg0 arg1 s = .next t) :
    SameExchange s t := by
  unfold execTerminate at h
  split at h <;> exact sameExchange_of_next_respond h ⟨rfl, rfl, rfl⟩

/-- An instruction that is no frame leaves the exchange as it is. -/
theorem exec_sameExchange_of_not_frame {i : Instr} {s t : State} (hi : Claims.isFrame i = false)
    (h : exec i s = .next t) : SameExchange s t := by
  cases i with
  | velocity | sensorSetup | sensorAccel | sensorGyro | sensorPosition | sensorDeadReckoning | ping | ack | shutdown =>
    exact Bool.noConfusion hi
  | start arg0 arg1 => exact execStart_sameExchange arg0 arg1 h
  | setVelocity lin ang => exact execSetVelocity_sameExchange lin ang h
  | terminate arg0 arg1 => exact execTerminate_sameExchange arg0 arg1 h
  | hostReservedZero | hostReservedLow | hostReservedHigh => exact sameExchange_of_next_respond h (.refl s)

/-- A host word is never read as a frame. -/
theorem isFrame_decodeHost (w : HostWord) : Claims.isFrame (decodeHost w) = false := by
  unfold decodeHost
  repeat' split
  all_goals rfl

/-! ## The turns -/

theorem selectedFrame_eq_none_of_busy {s : State} (h : s.busy = true) : selectedFrame s = none :=
  selectedFrame_eq_none.2 (.inl h)

/-- With a frame in flight, only its completion and a RESET touch the exchange. -/
theorem runTurn_sameExchange {u : Turn} {s t : State} (hbusy : s.busy = true) (hreset : Claims.notReset u)
    (hcomplete : ∀ o, u ≠ .complete o) (h : runTurn u s = .next t) : SameExchange s t := by
  rcases runTurn_next h with ⟨-, ⟨-, rfl⟩ | ⟨i, hsel, -⟩⟩ | ⟨w, -, hw⟩ | ⟨o, hu, -⟩ | ⟨-, rfl⟩ | ⟨-, rfl⟩ |
    ⟨p, -, hu, -⟩
  · exact .refl _
  · rw [selectedFrame_eq_none_of_busy hbusy] at hsel
    cases hsel
  · exact exec_sameExchange_of_not_frame (isFrame_decodeHost w) hw
  · exact absurd hu (hcomplete o)
  · exact sameExchange_probeDelayFires s
  · exact sameExchange_pollTimerFires s
  · exact absurd hu (hreset p)

/-- Settles O44, turn by turn. -/
theorem noFrameIsAbortedButByReset : Obligations.NoFrameIsAbortedButByReset := by
  intro s t hbusy hstep hreset hcomplete
  have htake := sameExchange_takeTurn s
  have hturn := runTurn_sameExchange (htake.busy.trans hbusy) hreset hcomplete hstep
  obtain ⟨hb, htx, hrx⟩ := htake.trans hturn
  exact ⟨hb.trans hbusy, fun a => by rw [htx], fun a => by rw [hrx]⟩

end Sys2Proof.Machine
end

section
/-! SUPPORT. 42_link_session.md R231: what `select` answers under each clause, given that the clauses before it do not hold. -/

namespace Sys2Proof.Machine

variable {s : State}

theorem select_preempt (hlink : s.linkState = .handshaking ∨ s.linkState = .ready) (hterm : s.termPending = true) :
    select s = some .preempt := by
  simp [select, hlink, hterm]

theorem select_shutdown (hlink : s.linkState = .shuttingDown) (hcount : s.shutdownCount < 2) :
    select s = some .shutdown := by
  simp [select, hlink, hcount]

theorem select_shuttingDown_done (hlink : s.linkState = .shuttingDown) (hcount : s.shutdownCount = 2) : select s = none := by
  simp [select, hlink, hcount]

theorem select_idle (hlink : s.linkState = .uninitialized ∨ s.linkState = .closed) : select s = none := by
  rcases hlink with hlink | hlink <;> simp [select, hlink]

theorem select_ping (hlink : s.linkState = .handshaking) (hterm : s.termPending = false) (hwait : s.probeWait = false) :
    select s = some .ping := by
  simp [select, hlink, hterm, hwait]

theorem select_probeWait (hlink : s.linkState = .handshaking) (hterm : s.termPending = false) (hwait : s.probeWait = true) :
    select s = none := by
  simp [select, hlink, hterm, hwait]

/-! In Ready with no termination pending. -/

section Ready

variable (hlink : s.linkState = .ready) (hterm : s.termPending = false)

include hlink hterm

theorem select_ack (hack : s.ackPending = true) : select s = some .ack := by
  simp [select, hlink, hterm, hack]

theorem select_sensor (hack : s.ackPending = false) (hcycle : s.cycleActive = true) :
    select s = some (.sensor s.cycleStep) := by
  simp [select, hlink, hterm, hack, hcycle]

theorem select_velocity (hack : s.ackPending = false) (hcycle : s.cycleActive = false) (hslot : s.slotValid = true) :
    select s = some .velocity := by
  simp [select, hlink, hterm, hack, hcycle, hslot]

theorem select_startCycle (hack : s.ackPending = false) (hcycle : s.cycleActive = false) (hslot : s.slotValid = false)
    (hpoll : s.pollDue = true) : select s = some .startCycle := by
  simp [select, hlink, hterm, hack, hcycle, hslot, hpoll]

theorem select_ready_idle (hack : s.ackPending = false) (hcycle : s.cycleActive = false) (hslot : s.slotValid = false)
    (hpoll : s.pollDue = false) : select s = none := by
  simp [select, hlink, hterm, hack, hcycle, hslot, hpoll]

end Ready

/-- Settles O28, clause by clause. -/
theorem selectionOrder : Obligations.SelectionOrder := by
  intro s
  refine ⟨select_preempt, select_shutdown, select_ping, fun hlink hterm => ?ready, select_idle, select_shuttingDown_done,
    select_probeWait⟩
  case ready =>
    refine ⟨select_ack hlink hterm, fun hack => ⟨select_sensor hlink hterm hack, fun hcycle => ?_⟩⟩
    exact ⟨select_velocity hlink hterm hack hcycle, fun hslot =>
      ⟨select_startCycle hlink hterm hack hcycle hslot, select_ready_idle hlink hterm hack hcycle hslot⟩⟩

end Sys2Proof.Machine
end

section
/-! SUPPORT. 42_link_session.md R220 to R223 and R249: what each host command answers in each state, and that nothing else moves in
`Closed`. -/

namespace Sys2Proof.Machine

/-! ## The commands (R220 to R223) -/

/-- Settles O22: START is a match on `link_state`. -/
theorem startCommand : Obligations.StartCommand := by
  intro a b s
  refine ⟨fun hlink => ?_, fun hlink => ?_, ?_⟩
  · simp [exec, execStart, hlink, respond]
  · simp [exec, execStart, hlink, respond]
  · rintro (hlink | hlink | hlink) <;> simp [exec, execStart, hlink, respond]

/-- Settles O24: TERMINATE is a match on `link_state`. -/
theorem terminateCommand : Obligations.TerminateCommand := by
  intro a b s
  refine ⟨fun hlink => ?_, ?_, fun hlink => ?_, fun hlink => ?_⟩
  · simp [exec, execTerminate, hlink, respond]
  · rintro (hlink | hlink) <;> simp [exec, execTerminate, hlink, respond]
  · simp [exec, execTerminate, hlink, respond]
  · simp [exec, execTerminate, hlink, respond]

/-- Settles O23: where the state checks do not answer, the encoder's finiteness check does (R142). -/
theorem setVelocityCommand : Obligations.SetVelocityCommand := by
  intro lin ang s
  refine ⟨fun hclosed => ?_, fun hdown hclosed hterm => ⟨fun hinf => ?_, fun ⟨hlin, hang⟩ => ?_⟩⟩
  · simp [exec, execSetVelocity, hclosed, respond]
  · have henc := encodeVelocity_of_not_finite (hinf.imp (isFinite_eq_false_iff lin).2 (isFinite_eq_false_iff ang).2)
    simp [exec, execSetVelocity, hdown, hclosed, hterm, henc, respond]
  · have henc := encodeVelocity_of_finite ((isFinite_iff lin).2 hlin) ((isFinite_iff ang).2 hang)
    simp [exec, execSetVelocity, hdown, hclosed, hterm, henc, respond]

theorem decodeHost_of_start {w : HostWord} (h : w.cmd = 0x1) : decodeHost w = .start w.arg0 w.arg1 := by
  simp [decodeHost, h]

theorem decodeHost_of_setVelocity {w : HostWord} (h : w.cmd = 0x2) : decodeHost w = .setVelocity w.arg0 w.arg1 := by
  simp [decodeHost, h]

theorem decodeHost_of_terminate {w : HostWord} (h : w.cmd = 0x3) : decodeHost w = .terminate w.arg0 w.arg1 := by
  simp [decodeHost, h]

/-- Every code that is no command's falls into one of the three reserved rows, which answer alike. -/
theorem exec_decodeHost_reserved {w : HostWord} (h1 : w.cmd ≠ 0x1) (h2 : w.cmd ≠ 0x2) (h3 : w.cmd ≠ 0x3) (s : State) :
    exec (decodeHost w) s = .next (respond .illegalCmd s) := by
  rw [decodeHost, if_neg h1, if_neg h2, if_neg h3]
  split
  · rfl
  · split <;> rfl

/-- Settles O25: the three rows answer as they stand. -/
theorem reservedHostCodes : Obligations.ReservedHostCodes := by
  intro s a b j k w
  exact ⟨rfl, rfl, rfl, fun h1 h2 h3 => exec_decodeHost_reserved h1 h2 h3 s⟩

/-! ## Taking a turn -/

@[simp] theorem takeTurn_linkState (s : State) : (takeTurn s).linkState = s.linkState := by rw [takeTurn_eq]

@[simp] theorem takeTurn_busy (s : State) : (takeTurn s).busy = s.busy := (sameExchange_takeTurn s).busy

@[simp] theorem takeTurn_tx (s : State) : (takeTurn s).tx = s.tx := (sameExchange_takeTurn s).tx

@[simp] theorem takeTurn_busOpen (s : State) : (takeTurn s).busOpen = s.busOpen := by rw [takeTurn_eq]

@[simp] theorem takeTurn_probeWait (s : State) : (takeTurn s).probeWait = s.probeWait := by rw [takeTurn_eq]

@[simp] theorem takeTurn_termPending (s : State) : (takeTurn s).termPending = s.termPending := by rw [takeTurn_eq]

@[simp] theorem takeTurn_shutdownCount (s : State) : (takeTurn s).shutdownCount = s.shutdownCount := by rw [takeTurn_eq]

@[simp] theorem takeTurn_responses (s : State) : (takeTurn s).responses = s.responses := by rw [takeTurn_eq]

/-! ## Closed (R249) -/

/-- The answer to a host word in `Closed`. -/
def closedAnswer (w : HostWord) : ErrorCode :=
  if w.cmd = 0x1 ∨ w.cmd = 0x2 ∨ w.cmd = 0x3 then .linkClosed else .illegalCmd

theorem exec_decodeHost_closed {s : State} (hlink : s.linkState = .closed) (w : HostWord) :
    exec (decodeHost w) s = .next (respond (closedAnswer w) s) := by
  by_cases h1 : w.cmd = 0x1
  · rw [decodeHost_of_start h1, closedAnswer, if_pos (.inl h1)]
    obtain ⟨-, hclosed, -⟩ := startCommand w.arg0 w.arg1 s
    exact hclosed hlink
  by_cases h2 : w.cmd = 0x2
  · rw [decodeHost_of_setVelocity h2, closedAnswer, if_pos (.inr (.inl h2))]
    obtain ⟨hclosed, -⟩ := setVelocityCommand w.arg0 w.arg1 s
    exact hclosed (.inr (.inl hlink))
  by_cases h3 : w.cmd = 0x3
  · rw [decodeHost_of_terminate h3, closedAnswer, if_pos (.inr (.inr h3))]
    obtain ⟨-, -, -, hclosed⟩ := terminateCommand w.arg0 w.arg1 s
    exact hclosed hlink
  · rw [exec_decodeHost_reserved h1 h2 h3, closedAnswer, if_neg fun h => h.elim h1 fun h => h.elim h2 h3]

theorem probeDelayFires_of_not_wait {s : State} (h : s.probeWait = false) : probeDelayFires s = s := by
  rw [probeDelayFires, ← h]

theorem pollTimerFires_of_not_ready {s : State} (h : s.linkState ≠ .ready) : pollTimerFires s = s := by
  rw [pollTimerFires, if_neg h]

/-- In `Closed`, with the bus released and no probe delay running, every turn of the block's own agents passes. -/
theorem runTurn_closed {s : State} (hlink : s.linkState = .closed) (hbusy : s.busy = false) (hbus : s.busOpen = false)
    (hwait : s.probeWait = false) {u : Turn} (hreset : Claims.notReset u) (hhost : ∀ w, u ≠ .host w) :
    runTurn u s = .next s := by
  cases u with
  | issue => simp [runTurn, runIssue, selectedFrame_eq_none.2 (.inr (.inl hbus))]
  | host w => exact absurd rfl (hhost w)
  | complete o => simp [runTurn, runComplete, hbusy]
  | probeDelay => rw [runTurn, probeDelayFires_of_not_wait hwait]
  | pollTick => rw [runTurn, pollTimerFires_of_not_ready (by simp [hlink])]
  | reset p => exact absurd rfl (hreset p)

theorem Inv.not_probeWait_of_closed {s : State} (h : Inv s) (hlink : s.linkState = .closed) : s.probeWait = false := by
  rw [Bool.eq_false_iff]
  intro hwait
  cases hlink.symm.trans (h.wait_states hwait)

/-- Settles O27: a host word is answered by the commands' state checks, and every other turn passes. -/
theorem closedOnlyAnswers : Obligations.ClosedOnlyAnswers := by
  intro s hinv hlink hreset
  obtain ⟨hbusy, hbus, -⟩ := hinv.closed_count hlink
  have hwait := hinv.not_probeWait_of_closed hlink
  by_cases hhost : ∃ w, nextTurn s = .host w
  · obtain ⟨w, hw⟩ := hhost
    refine ⟨respond (closedAnswer w) (takeTurn s), ?_, ?_, fun v hv => ?_, fun hno => absurd hw (hno w)⟩
    · rw [step, hw]
      exact exec_decodeHost_closed ((takeTurn_linkState s).trans hlink) w
    · rw [takeTurn_eq, respond]
    · obtain rfl : w = v := Turn.host.inj (hw.symm.trans hv)
      rw [respond_responses, takeTurn_responses, closedAnswer]
  · have hno : ∀ w, nextTurn s ≠ .host w := fun w hw => hhost ⟨w, hw⟩
    refine ⟨takeTurn s, ?_, ?_, fun w hw => absurd hw (hno w), fun _ => takeTurn_responses s⟩
    · exact runTurn_closed (by simpa using hlink) (by simpa using hbusy) (by simpa using hbus) (by simpa using hwait) hreset hno
    · rw [takeTurn_eq]

end Sys2Proof.Machine
end

section
/-! SUPPORT. What stands in TX, by its byte 0 (30_encoding.md R113), and the two words in which the statements about a frame speak
of its issue and of its completion. -/

namespace Sys2Proof

/-- A frame whose bytes are those of a list, then zeros, reads as that list. -/
theorem Frame.get_eq_getD {F : Frame} {bs : List Byte} {n : Nat} (h : F.bytes = bs ++ List.replicate n 0x00) (a : Nat) :
    F.get a = bs.getD a 0x00 := by
  rw [Frame.get, h]
  rcases Nat.lt_or_ge a bs.length with ha | ha
  · exact List.getD_append _ _ _ _ ha
  · rw [List.getD_append_right _ _ _ _ ha, List.getD_eq_getElem?_getD, List.getElem?_getD_replicate_default_eq,
      List.getD_eq_default _ _ ha]

/-- A frame that decodes to an instruction matches that instruction's row of the opcode table. -/
theorem decodeFrame_matches {c : Config} {F : Frame} {i : Instr} (h : decodeFrame c F = .ok i) :
    (Laws.TableRow.row c i).matches (.frame F) := by
  unfold decodeFrame at h
  simp only at h
  repeat' split at h
  all_goals cases h
  all_goals exact (Laws.TableRow.and_ones _).trans ‹_›

namespace Machine

variable {s : State}

/-! ## What TX holds -/

@[simp] theorem Memory.toFrame_get (m : Memory) {i : Nat} (h : i < 16) : m.toFrame.get i = m.read i := Frame.of_get _ h

theorem txInstr_of_velocity (h : s.tx.read 0 = Config.opVelocity) :
    txInstr s = .ok (.velocity (Claims.fieldAt s.tx 1) (Claims.fieldAt s.tx 5)) := by
  simp [txInstr, decodeFrame, h, be32Get, Claims.fieldAt]

theorem txInstr_of_poll (k : CycleStep) (h : s.tx.read 0 = k.opcode) : txInstr s = .ok k.instr := by
  rw [← Memory.toFrame_get _ (by decide)] at h
  cases k <;> simp only [txInstr, decodeFrame, h] <;> rfl

theorem txInstr_of_ping (h : s.tx.read 0 = Config.opPing) : txInstr s = .ok .ping := by
  rw [← Memory.toFrame_get _ (by decide)] at h
  simp only [txInstr, decodeFrame, h]
  rfl

theorem txInstr_of_ack (h : s.tx.read 0 = s.cfg.opAck) : txInstr s = .ok .ack := by
  have hfresh := s.cfg.opAck_fresh
  simp only [Config.fixedOpcodes, List.mem_cons, not_or] at hfresh
  simp [txInstr, decodeFrame, h, hfresh]

theorem txInstr_of_shutdown (h : s.tx.read 0 = s.cfg.opShutdown) : txInstr s = .ok .shutdown := by
  have hfresh := s.cfg.opShutdown_fresh
  simp only [Config.fixedOpcodes, List.mem_cons, not_or] at hfresh
  simp [txInstr, decodeFrame, h, hfresh, s.cfg.opAck_ne_opShutdown.symm]

theorem opcode_of_txInstr_ping (h : txInstr s = .ok .ping) : s.tx.read 0 = 0xFF := by
  have hrow := decodeFrame_matches h
  rwa [Laws.TableRow.row, Laws.TableRow.Row.matches, Laws.TableRow.and_ones, Memory.toFrame_get _ (by decide)] at hrow

theorem opcode_of_txInstr_shutdown (h : txInstr s = .ok .shutdown) : s.tx.read 0 = s.cfg.opShutdown := by
  have hrow := decodeFrame_matches h
  rwa [Laws.TableRow.row, Laws.TableRow.Row.matches, Laws.TableRow.and_ones, Memory.toFrame_get _ (by decide)] at hrow

/-! ## The issue: `Claims.Sends` -/

theorem selectedFrame_of_select {a : Action} (hbusy : s.busy = false) (hbus : s.busOpen = true) (h : select s = some a) :
    selectedFrame s = some (a.instr s) :=
  selectedFrame_eq_some.2 ⟨hbusy, hbus, a, h, rfl⟩

theorem sends_sendFrame {F : Frame} {bs : List Byte} {n : Nat} (h : F.bytes = bs ++ List.replicate n 0x00) (u : State) :
    Claims.Sends bs u (sendFrame F u) :=
  ⟨rfl, fun a => (Memory.read_ofFrame F a).trans (Frame.get_eq_getD h a)⟩

/-! ## The completion: `Claims.Receives` -/

theorem deliver_rx_of_ok {R : Frame} (h : s.outcome = .ok R) : (deliver s).rx = Memory.ofFrame R := by
  simp [deliver, h]

/-- `u` with what the delivery in `s` leaves of the exchange. -/
def received (s u : State) : State := { u with rx := (deliver s).rx, busy := false, draws := (deliver s).draws }

theorem receives_received (s u : State) : Claims.Receives s.outcome u (received s u) :=
  ⟨rfl, fun R hR a => by rw [received, deliver_rx_of_ok hR, Memory.read_ofFrame]⟩

theorem reason_eq_errorCode (e : XferError) : Claims.reason e = e.errorCode := by
  cases e <;> rfl

theorem surfaceError_eq (op : Byte) (s : State) :
    surfaceError op s = { s with events := s.events ++ Claims.reports op s.outcome } := by
  cases h : s.outcome with
  | ok R => simp [surfaceError, Claims.reports, h]
  | fail e => simp [surfaceError, Claims.reports, h, reason_eq_errorCode]

end Machine

end Sys2Proof
end

section
/-! SUPPORT. 42_link_session.md R232, R236 to R239: PREEMPT, the bring-up frames and VELOCITY, each at its issue and at its completion. -/

namespace Sys2Proof.Machine

variable {s : State}

/-! ## SHUTDOWN, and PREEMPT as one of its issues (R232) -/

/-- The state that takes the termination, element by element; the accumulator keeps its contents (log 19). -/
theorem preempt_eq (s : State) :
    preempt s = { s with
      termPending := false
      ackPending := false
      slotValid := false
      pollDue := false
      probeWait := false
      shutdownCount := 0
      linkState := .shuttingDown
      cycleActive := false
      cycleStep := if s.cycleActive = true then .setup else s.cycleStep
      seq := if s.cycleActive = true then s.seq + 1 else s.seq
      events := if s.cycleActive = true then s.events ++ [.cycleError s.seq .cyclePreempted] else s.events } := by
  cases h : s.cycleActive <;> simp [preempt, finishCycleFailed, closeCycle, seqAdvance, emit, h]

theorem exec_shutdown_issue (hbusy : s.busy = false) (hframe : selectedFrame s = some .shutdown) :
    exec .shutdown s = issueShutdown s := by
  rw [exec, execShutdown, exchange_issue hbusy hframe]

theorem exec_shutdown_complete (hbusy : s.busy = true) (htx : txInstr s = .ok .shutdown) :
    exec .shutdown s = .next (completeShutdown (deliver s)) := by
  rw [exec, execShutdown, exchange_complete hbusy htx]

theorem exec_preempt (hbusy : s.busy = false) (hbus : s.busOpen = true) (hsel : select s = some .preempt) :
    exec .shutdown s = .next (sendShutdown (preempt s)) := by
  rw [exec_shutdown_issue hbusy (selectedFrame_of_select hbusy hbus hsel), issueShutdown, if_pos hsel]

/-- Settles O30: the Sequencer selects PREEMPT, whose SHUTDOWN frame is sent from the state `preempt` leaves. -/
theorem preemptTakesTheTermination : Obligations.PreemptTakesTheTermination := by
  intro s hbusy hbus hlink hterm
  have hsel : select s = some .preempt := select_preempt hlink hterm
  refine ⟨_, exec_preempt hbusy hbus hsel, ?_⟩
  simp only [sendShutdown_accAccel, sendShutdown_accGyro, sendShutdown_accPose, sendShutdown_accOrient, sendShutdown_accDr,
    preempt_accAccel, preempt_accGyro, preempt_accPose, preempt_accOrient, preempt_accDr, ite_self]
  rw [preempt_eq]
  exact sends_sendFrame (n := 14) (encodeShutdown_bytes s.cfg) _

/-! ## PING (R236, R237) -/

theorem exec_ping_issue (hbusy : s.busy = false) (hframe : selectedFrame s = some .ping) :
    exec .ping s = .next (sendFrame encodeProbe s) := by
  rw [exec, execPing, exchange_issue hbusy hframe]

theorem exec_ping_complete (hbusy : s.busy = true) (htx : txInstr s = .ok .ping) :
    exec .ping s = .next (completePing (deliver s)) := by
  rw [exec, execPing, exchange_complete hbusy htx]

theorem umod_eq_zero_iff (a b : Word) : a.umod b = 0 ↔ a.toNat % b.toNat = 0 := by
  rw [← BitVec.toNat_inj]
  rfl

/-- R237's report, as what it appends. -/
theorem reportProbeStall_eq (s : State) :
    reportProbeStall s = { s with
      events := s.events ++
        if s.cfg.probeReportN ≠ 0 ∧ s.probeFails.toNat % s.cfg.probeReportN.toNat = 0 then [.probeStall s.probeFails]
        else [] } := by
  simp only [reportProbeStall, umod_eq_zero_iff]
  split
  · rfl
  · rw [List.append_nil]

theorem completePing_of_confirms (h : Claims.Confirms s.outcome) :
    completePing (deliver s) = { deliver s with linkState := .ready, ackPending := true } := by
  obtain ⟨R, hR, h0, h1, h2⟩ := h
  have hreply : decodeHandshakeReply R 16 = .ok .confirmed := by
    simp [decodeHandshakeReply, h0, h1, h2]
  simp [completePing, hR, deliver_rx_of_ok hR, hreply]

/-- A reply that does not confirm and a transport error count alike. -/
theorem completePing_of_not_confirms (h : ¬ Claims.Confirms s.outcome) :
    completePing (deliver s) = completePing.probeFailed (deliver s) := by
  cases ho : s.outcome with
  | ok R =>
    have hreply : decodeHandshakeReply R 16 = .ok .notReady := by
      rw [decodeHandshakeReply, if_neg (by decide), if_neg fun hR => h ⟨R, ho, hR⟩]
    simp [completePing, ho, deliver_rx_of_ok ho, hreply]
  | fail e => simp [completePing, ho]

/-- Settles O31: whether the outcome confirms decides between the two effects of the completion. -/
theorem pingExchange : Obligations.PingExchange := by
  intro s
  refine ⟨fun hbusy hbus hlink hterm hwait => ?issue, fun hbusy htx => ?complete⟩
  case issue =>
    have hsel := selectedFrame_of_select hbusy hbus (select_ping hlink hterm hwait)
    exact ⟨_, exec_ping_issue hbusy hsel, sends_sendFrame (n := 14) encodeProbe_bytes s⟩
  case complete =>
    have hexec := exec_ping_complete hbusy (txInstr_of_ping htx)
    constructor
    · intro hconf
      rw [hexec, completePing_of_confirms hconf]
      exact ⟨_, rfl, receives_received s _⟩
    · intro hconf
      rw [hexec, completePing_of_not_confirms hconf, completePing.probeFailed, reportProbeStall_eq]
      exact ⟨_, rfl, receives_received s _⟩

/-! ## ACK (R238) -/

theorem exec_ack_issue (hbusy : s.busy = false) (hframe : selectedFrame s = some .ack) :
    exec .ack s = .next (sendFrame (encodeAck s.cfg) s) := by
  rw [exec, execAck, exchange_issue hbusy hframe]

theorem exec_ack_complete (hbusy : s.busy = true) (htx : txInstr s = .ok .ack) :
    exec .ack s = .next (completeAck (deliver s)) := by
  rw [exec, execAck, exchange_complete hbusy htx]

/-- Settles O32: the completion is `surfaceError` after `ack_pending` is cleared. -/
theorem ackExchange : Obligations.AckExchange := by
  intro s
  refine ⟨fun hbusy hbus hlink hterm hack => ?issue, fun hbusy htx => ?complete⟩
  case issue =>
    have hsel := selectedFrame_of_select hbusy hbus (select_ack hlink hterm hack)
    exact ⟨_, exec_ack_issue hbusy hsel, sends_sendFrame (n := 15) (encodePoll_bytes s.cfg.opAck) s⟩
  case complete =>
    rw [exec_ack_complete hbusy (txInstr_of_ack htx), completeAck, surfaceError_eq]
    exact ⟨_, rfl, receives_received s _⟩

/-! ## VELOCITY (R239) -/

theorem exec_velocity_issue {lin ang : Word} (hbusy : s.busy = false) (hframe : selectedFrame s = some (.velocity lin ang)) :
    exec (.velocity lin ang) s = issueVelocity lin ang s := by
  rw [exec, execVelocity, exchange_issue hbusy hframe]

theorem exec_velocity_complete {lin ang : Word} (hbusy : s.busy = true) (htx : txInstr s = .ok (.velocity lin ang)) :
    exec (.velocity lin ang) s = .next (surfaceError Config.opVelocity (deliver s)) := by
  rw [exec, execVelocity, exchange_complete hbusy htx]

theorem issueVelocity_of_finite {lin ang : Word} (hlin : isFinite lin = true) (hang : isFinite ang = true) (s : State) :
    issueVelocity lin ang s = .next (sendFrame (velocityFrame lin ang) { s with slotValid := false }) := by
  rw [issueVelocity, encodeVelocity_of_finite hlin hang]

/-- Settles O33: the frame in flight decodes to VELOCITY with the operands that stand in TX. -/
theorem velocityExchange : Obligations.VelocityExchange := by
  intro s
  refine ⟨fun hbusy hbus hlink hterm hack hcycle hslot hlin hang => ?issue, fun hbusy htx => ?complete⟩
  case issue =>
    have hsel := selectedFrame_of_select hbusy hbus (select_velocity hlink hterm hack hcycle hslot)
    exact ⟨_, (exec_velocity_issue hbusy hsel).trans (issueVelocity_of_finite hlin hang s),
      sends_sendFrame (n := 7) (velocityFrame_bytes s.slotLin s.slotAng) _⟩
  case complete =>
    rw [exec_velocity_complete hbusy (txInstr_of_velocity htx), surfaceError_eq]
    exact ⟨_, rfl, receives_received s _⟩

end Sys2Proof.Machine
end

section
/-! SUPPORT. 42_link_session.md R240 to R244: the five frames of a poll cycle. They share their issue (selection clause 5) and their
failure (R234), so both are said once for every cycle step; only what an ok reply writes is the frame's own. -/

namespace Sys2Proof.Machine

variable {s : State}

/-- The completion of the poll frame of a cycle step. -/
def CycleStep.complete : CycleStep → State → State
  | .setup => completeSetup
  | .accel => completeAccel
  | .gyro => completeGyro
  | .position => completePosition
  | .deadReckoning => completeDeadReckoning

/-! ## What the five share -/

/-- A poll frame of an active cycle is sent as it stands; SENSOR_SETUP starts no cycle there. -/
theorem exec_poll_issue (k : CycleStep) (hbusy : s.busy = false) (hbus : s.busOpen = true)
    (hsel : select s = some (.sensor k)) : exec k.instr s = .next (sendFrame (encodePoll k.opcode) s) := by
  have hframe := selectedFrame_of_select hbusy hbus hsel
  cases k with
  | setup =>
    have hstart : issueSetup s = issuePoll Config.opSetup s := by rw [issueSetup, if_neg (by simp [hsel])]
    exact (exchange_issue hbusy hframe).trans hstart
  | accel | gyro | position | deadReckoning => exact exchange_issue hbusy hframe

/-- Selection clause 5, as the statements about the poll frames ask for it. -/
theorem poll_sends (k : CycleStep) (hbusy : s.busy = false) (hbus : s.busOpen = true) (hlink : s.linkState = .ready)
    (hterm : s.termPending = false) (hack : s.ackPending = false) (hcycle : s.cycleActive = true) (hstep : s.cycleStep = k) :
    ∃ t, exec k.instr s = .next t ∧ Claims.Sends [k.opcode] s t := by
  have hsel : select s = some (.sensor k) := hstep ▸ select_sensor hlink hterm hack hcycle
  exact ⟨_, exec_poll_issue k hbusy hbus hsel, sends_sendFrame (n := 15) (encodePoll_bytes k.opcode) s⟩

theorem exec_poll_complete (k : CycleStep) (hbusy : s.busy = true) (htx : txInstr s = .ok k.instr) :
    exec k.instr s = .next (k.complete (deliver s)) := by
  cases k <;> exact exchange_complete hbusy htx

theorem complete_of_fail (k : CycleStep) {e : XferError} (h : s.outcome = .fail e) : k.complete s = sensorFail k.opcode e s := by
  cases k with
  | setup => simp [CycleStep.complete, completeSetup, h, CycleStep.opcode]
  | accel => simp [CycleStep.complete, completeAccel, h, CycleStep.opcode]
  | gyro => simp [CycleStep.complete, completeGyro, h, CycleStep.opcode]
  | position => simp [CycleStep.complete, completePosition, h, CycleStep.opcode]
  | deadReckoning => simp [CycleStep.complete, completeDeadReckoning, h, CycleStep.opcode]

/-- R234: a failed exchange loses the cycle; the model keeps the accumulator (log 19). -/
theorem sensorFail_eq_cycleLost (op : Byte) (e : XferError) (s : State) : sensorFail op e s = Claims.cycleLost op e s s := by
  simp [sensorFail, finishCycleFailed, closeCycle, seqAdvance, emit, Claims.cycleLost, reason_eq_errorCode]

/-- The completion of a poll frame, where its effect after the delivery is known. -/
theorem poll_receives (k : CycleStep) (hbusy : s.busy = true) (htx : s.tx.read 0 = k.opcode) {u : State}
    (hu : k.complete (deliver s) = received s u) : ∃ t, exec k.instr s = .next t ∧ Claims.Receives s.outcome u t := by
  rw [exec_poll_complete k hbusy (txInstr_of_poll k htx), hu]
  exact ⟨_, rfl, receives_received s u⟩

theorem poll_loses (k : CycleStep) (hbusy : s.busy = true) (htx : s.tx.read 0 = k.opcode) {e : XferError}
    (ho : s.outcome = .fail e) :
    ∃ t, exec k.instr s = .next t ∧ Claims.Receives s.outcome (Claims.cycleLost k.opcode e s t) t := by
  rw [exec_poll_complete k hbusy (txInstr_of_poll k htx), complete_of_fail k ((deliver_outcome s).trans ho),
    sensorFail_eq_cycleLost]
  exact ⟨_, rfl, receives_received s (Claims.cycleLost k.opcode e s s)⟩

/-! ## SENSOR_SETUP (R240, R233) -/

theorem exec_startCycle (hbusy : s.busy = false) (hbus : s.busOpen = true) (hsel : select s = some .startCycle) :
    exec .sensorSetup s = .next (sendFrame (encodePoll Config.opSetup) (startCycle s)) := by
  calc exec .sensorSetup s
    _ = issueSetup s := exchange_issue hbusy (selectedFrame_of_select hbusy hbus hsel)
    _ = issuePoll Config.opSetup (startCycle s) := by rw [issueSetup, if_pos hsel]

theorem completeSetup_of_ok {R : Frame} (h : s.outcome = .ok R) : completeSetup s = { s with cycleStep := .accel } := by
  simp [completeSetup, h]

/-- Settles O34: the issue through START_CYCLE is the one the other poll frames do not have. -/
theorem setupExchange : Obligations.SetupExchange := by
  intro s
  refine ⟨fun hbusy hbus hlink hterm hack => ⟨fun hcycle hslot hpoll => ?start, ?issue⟩,
    fun hbusy htx => ⟨fun R hR => ?ok, ?fail⟩⟩
  case start =>
    have hsel := select_startCycle hlink hterm hack hcycle hslot hpoll
    exact ⟨_, exec_startCycle hbusy hbus hsel, sends_sendFrame (n := 15) (encodePoll_bytes Config.opSetup) _⟩
  case issue => exact poll_sends .setup hbusy hbus hlink hterm hack
  case ok => exact poll_receives .setup hbusy htx (completeSetup_of_ok hR)
  case fail => exact fun _ => poll_loses .setup hbusy htx

/-! ## The four frames whose reply is decoded (R241 to R244) -/

theorem decodeFloatTriplet_whole (F : Frame) :
    decodeFloatTriplet F 16 = .ok (Claims.field F 1, Claims.field F 5, Claims.field F 9) := rfl

theorem decodeFloatPair_whole (F : Frame) : decodeFloatPair F 16 = .ok (Claims.field F 1, Claims.field F 5) := rfl

/-- R261, with the unit as a test. -/
theorem convAccel_eq (u : AccelUnits) (r0 r1 r2 : Word) :
    convAccel u r0 r1 r2 =
      if u = .g then ⟨fmul32 r0 0x411CF5C3, fmul32 r1 0x411CF5C3, fmul32 r2 0x411CF5C3⟩ else ⟨r0, r1, r2⟩ := by
  cases u <;> rfl

section Reply

variable {R : Frame} (hok : s.outcome = .ok R) (hrx : s.rx = Memory.ofFrame R)

include hok hrx

theorem completeAccel_of_ok :
    completeAccel s = { s with
      accAccel := convAccel s.cfg.accelUnits (Claims.field R 1) (Claims.field R 5) (Claims.field R 9)
      cycleStep := .gyro } := by
  simp [completeAccel, hok, hrx, decodeFloatTriplet_whole]

theorem completeGyro_of_ok :
    completeGyro s = { s with
      accGyro := convGyro (Claims.field R 1) (Claims.field R 5) (Claims.field R 9)
      cycleStep := .position } := by
  simp [completeGyro, hok, hrx, decodeFloatTriplet_whole]

theorem completePosition_of_ok :
    completePosition s = { s with
      accPose := (convPose (Claims.field R 1) (Claims.field R 5) (Claims.field R 9)).1
      accOrient := (convPose (Claims.field R 1) (Claims.field R 5) (Claims.field R 9)).2
      cycleStep := .deadReckoning } := by
  simp [completePosition, hok, hrx, decodeFloatTriplet_whole]

theorem completeDeadReckoning_of_ok :
    completeDeadReckoning s = finishCycleOk { s with accDr := ⟨Claims.field R 1, Claims.field R 5⟩ } := by
  simp [completeDeadReckoning, hok, hrx, decodeFloatPair_whole]

end Reply

/-- Settles O35: what an ok reply writes is `convAccel` of its three fields. -/
theorem accelExchange : Obligations.AccelExchange := by
  intro s
  refine ⟨poll_sends .accel, fun hbusy htx => ⟨fun R hR => ?_, fun _ => poll_loses .accel hbusy htx⟩⟩
  rw [← convAccel_eq]
  exact poll_receives .accel hbusy htx (completeAccel_of_ok hR (deliver_rx_of_ok hR))

/-- Settles O36: what an ok reply writes is `convGyro` of its three fields. -/
theorem gyroExchange : Obligations.GyroExchange := by
  intro s
  refine ⟨poll_sends .gyro, fun hbusy htx => ⟨fun R hR => ?_, fun _ => poll_loses .gyro hbusy htx⟩⟩
  exact poll_receives .gyro hbusy htx (completeGyro_of_ok hR (deliver_rx_of_ok hR))

/-- Settles O37: what an ok reply writes is `convPose` of its three fields, orientation and all. -/
theorem positionExchange : Obligations.PositionExchange := by
  intro s
  refine ⟨poll_sends .position, fun hbusy htx => ⟨fun R hR => ?_, fun _ => poll_loses .position hbusy htx⟩⟩
  exact poll_receives .position hbusy htx (completePosition_of_ok hR (deliver_rx_of_ok hR))

/-- Settles O38: the record is made of the accumulator with the reply's two fields already in it. -/
theorem deadReckoningExchange : Obligations.DeadReckoningExchange := by
  intro s
  refine ⟨poll_sends .deadReckoning, fun hbusy htx => ⟨fun R hR => ?_, fun _ => poll_loses .deadReckoning hbusy htx⟩⟩
  exact poll_receives .deadReckoning hbusy htx (completeDeadReckoning_of_ok hR (deliver_rx_of_ok hR))

end Sys2Proof.Machine
end

section
/-! SUPPORT. 42_link_session.md R210: every turn keeps `link_state` or makes one of the table's transitions, and only the two
completions that make one need the invariant to say from where. -/

namespace Sys2Proof.Machine

variable {s t : State}

/-- What the turn `u`, from `s` to `t`, does to `link_state`, with its cause. -/
inductive LinkChange (s t : State) : Turn → Prop where
  | kept {u : Turn} (hlink : t.linkState = s.linkState) : LinkChange s t u
  | started {w : HostWord} (hcmd : w.cmd = 0x1) (hfrom : s.linkState = .uninitialized) (hto : t.linkState = .handshaking) :
      LinkChange s t (.host w)
  | terminated {w : HostWord} (hcmd : w.cmd = 0x3) (hfrom : s.linkState = .uninitialized) (hto : t.linkState = .closed) :
      LinkChange s t (.host w)
  | confirmed {o : XferOutcome} (hbusy : s.busy = true) (htx : txInstr s = .ok .ping) (hconf : Claims.Confirms o)
      (hto : t.linkState = .ready) : LinkChange s t (.complete o)
  | preempted (hbusy : s.busy = false) (hsel : select s = some .preempt) (hto : t.linkState = .shuttingDown) :
      LinkChange s t .issue
  | released {o : XferOutcome} (hbusy : s.busy = true) (htx : txInstr s = .ok .shutdown) (hcount : s.shutdownCount = 2)
      (hto : t.linkState = .closed) : LinkChange s t (.complete o)

/-! ## The host commands -/

theorem execStart_linkState (a b : Word) (h : execStart a b s = .next t) :
    t.linkState = s.linkState ∨ s.linkState = .uninitialized ∧ t.linkState = .handshaking := by
  unfold execStart at h
  split at h
  · next hlink =>
    cases h
    exact .inr ⟨hlink, rfl⟩
  all_goals exact .inl (Host.Outcome.next.inj h ▸ rfl)

theorem execSetVelocity_linkState (lin ang : Word) (h : execSetVelocity lin ang s = .next t) : t.linkState = s.linkState := by
  unfold execSetVelocity at h
  split at h
  · cases h
    rfl
  · split at h
    all_goals
      cases h
      rfl

theorem execTerminate_linkState (a b : Word) (h : execTerminate a b s = .next t) :
    t.linkState = s.linkState ∨ s.linkState = .uninitialized ∧ t.linkState = .closed := by
  unfold execTerminate at h
  split at h
  · next hlink =>
    cases h
    exact .inr ⟨hlink, rfl⟩
  all_goals exact .inl (Host.Outcome.next.inj h ▸ rfl)

theorem exec_decodeHost_linkChange {w : HostWord} (h : exec (decodeHost w) s = .next t) : LinkChange s t (.host w) := by
  by_cases h1 : w.cmd = 0x1
  · rw [decodeHost_of_start h1] at h
    rcases execStart_linkState w.arg0 w.arg1 h with hlink | ⟨hfrom, hto⟩
    · exact .kept hlink
    · exact .started h1 hfrom hto
  by_cases h2 : w.cmd = 0x2
  · rw [decodeHost_of_setVelocity h2] at h
    exact .kept (execSetVelocity_linkState w.arg0 w.arg1 h)
  by_cases h3 : w.cmd = 0x3
  · rw [decodeHost_of_terminate h3] at h
    rcases execTerminate_linkState w.arg0 w.arg1 h with hlink | ⟨hfrom, hto⟩
    · exact .kept hlink
    · exact .terminated h3 hfrom hto
  · rw [exec_decodeHost_reserved h1 h2 h3] at h
    cases h
    exact .kept rfl

/-! ## The Sequencer's issue -/

theorem issueVelocity_linkState (lin ang : Word) (h : issueVelocity lin ang s = .next t) : t.linkState = s.linkState := by
  unfold issueVelocity at h
  split at h
  · cases h
    rfl
  · cases h

/-- Only PREEMPT moves `link_state`. -/
theorem exec_issue_linkChange {i : Instr} (hframe : selectedFrame s = some i) (h : exec i s = .next t) :
    LinkChange s t .issue := by
  obtain ⟨hbusy, hbus, a, hsel, rfl⟩ := selectedFrame_eq_some.1 hframe
  cases a with
  | preempt =>
    cases (exec_preempt hbusy hbus hsel).symm.trans h
    exact .preempted hbusy hsel rfl
  | shutdown =>
    have hissue : issueShutdown s = .next t := (exec_shutdown_issue hbusy hframe).symm.trans h
    rw [issueShutdown, if_neg (by simp [hsel])] at hissue
    cases hissue
    exact .kept rfl
  | ping =>
    cases (exec_ping_issue hbusy hframe).symm.trans h
    exact .kept rfl
  | ack =>
    cases (exec_ack_issue hbusy hframe).symm.trans h
    exact .kept rfl
  | sensor k =>
    cases (exec_poll_issue k hbusy hbus hsel).symm.trans h
    exact .kept rfl
  | velocity =>
    exact .kept (issueVelocity_linkState s.slotLin s.slotAng ((exec_velocity_issue hbusy hframe).symm.trans h))
  | startCycle =>
    cases (exec_startCycle hbusy hbus hsel).symm.trans h
    exact .kept rfl

/-! ## The completion -/

theorem poll_complete_linkState (k : CycleStep) (s : State) : (k.complete (deliver s)).linkState = s.linkState := by
  cases ho : s.outcome with
  | fail e => rw [complete_of_fail k ((deliver_outcome s).trans ho), sensorFail_linkState, deliver_linkState]
  | ok R =>
    have hok : (deliver s).outcome = .ok R := (deliver_outcome s).trans ho
    have hrx := deliver_rx_of_ok ho
    cases k with
    | setup => rw [CycleStep.complete, completeSetup_of_ok hok, deliver_linkState]
    | accel => rw [CycleStep.complete, completeAccel_of_ok hok hrx, deliver_linkState]
    | gyro => rw [CycleStep.complete, completeGyro_of_ok hok hrx, deliver_linkState]
    | position => rw [CycleStep.complete, completePosition_of_ok hok hrx, deliver_linkState]
    | deadReckoning =>
      rw [CycleStep.complete, completeDeadReckoning_of_ok hok hrx, finishCycleOk_linkState, deliver_linkState]

theorem exec_poll_complete_linkState {k : CycleStep} (hbusy : s.busy = true) (htx : txInstr s = .ok k.instr)
    (h : exec k.instr s = .next t) : t.linkState = s.linkState := by
  rw [exec_poll_complete k hbusy htx] at h
  cases h
  exact poll_complete_linkState k s

/-- Only a confirmed probe and the second SHUTDOWN move `link_state`. -/
theorem exec_complete_linkChange {i : Instr} (hbusy : s.busy = true) (htx : txInstr s = .ok i) (h : exec i s = .next t) :
    LinkChange s t (.complete s.outcome) := by
  rcases decodeFrame_ok htx with ⟨lin, ang, rfl⟩ | rfl | rfl | rfl | rfl | rfl | rfl | rfl | rfl
  · cases (exec_velocity_complete hbusy htx).symm.trans h
    exact .kept rfl
  · exact .kept (exec_poll_complete_linkState (k := .setup) hbusy htx h)
  · exact .kept (exec_poll_complete_linkState (k := .accel) hbusy htx h)
  · exact .kept (exec_poll_complete_linkState (k := .gyro) hbusy htx h)
  · exact .kept (exec_poll_complete_linkState (k := .position) hbusy htx h)
  · exact .kept (exec_poll_complete_linkState (k := .deadReckoning) hbusy htx h)
  · cases (exec_ping_complete hbusy htx).symm.trans h
    by_cases hconf : Claims.Confirms s.outcome
    · exact .confirmed hbusy htx hconf (by rw [completePing_of_confirms hconf])
    · exact .kept (by rw [completePing_of_not_confirms hconf]; rfl)
  · cases (exec_ack_complete hbusy htx).symm.trans h
    exact .kept rfl
  · cases (exec_shutdown_complete hbusy htx).symm.trans h
    by_cases hcount : s.shutdownCount = 2
    · exact .released hbusy htx hcount (by rw [completeShutdown, deliver_shutdownCount, if_pos hcount]; rfl)
    · exact .kept (by rw [completeShutdown, deliver_shutdownCount, if_neg hcount]; rfl)

/-! ## The turns -/

theorem runTurn_linkChange {u : Turn} (hreset : Claims.notReset u) (h : runTurn u s = .next t) : LinkChange s t u := by
  rcases runTurn_next h with ⟨rfl, ⟨-, rfl⟩ | ⟨i, hframe, hi⟩⟩ | ⟨w, rfl, hw⟩ | ⟨o, rfl, ⟨-, rfl⟩ | ⟨i, hbusy, htx, hi⟩⟩ |
    ⟨rfl, rfl⟩ | ⟨rfl, rfl⟩ | ⟨p, -, rfl, -⟩
  · exact .kept rfl
  · exact exec_issue_linkChange hframe hi
  · exact exec_decodeHost_linkChange hw
  · exact .kept rfl
  · cases exec_complete_linkChange (s := { s with outcome := o }) hbusy htx hi with
    | kept hlink => exact .kept hlink
    | confirmed hbusy htx hconf hto => exact .confirmed hbusy htx hconf hto
    | released hbusy htx hcount hto => exact .released hbusy htx hcount hto
  · exact .kept rfl
  · exact .kept rfl
  · exact absurd rfl (hreset p)

theorem select_eq_preempt (h : select s = some .preempt) :
    (s.linkState = .handshaking ∨ s.linkState = .ready) ∧ s.termPending = true := by
  simpa using select_cases h

/-- A probe is in flight in Handshaking only. -/
theorem Inv.handshaking_of_ping (h : Inv s) (hbusy : s.busy = true) (htx : txInstr s = .ok .ping) :
    s.linkState = .handshaking := by
  have hflight := h.flight hbusy
  rw [flightOk, htx] at hflight
  exact hflight.1

/-- A SHUTDOWN frame is in flight in ShuttingDown only. -/
theorem Inv.shuttingDown_of_shutdown (h : Inv s) (hbusy : s.busy = true) (htx : txInstr s = .ok .shutdown) :
    s.linkState = .shuttingDown := by
  have hflight := h.flight hbusy
  rw [flightOk, htx] at hflight
  exact hflight.1

@[simp] theorem txInstr_takeTurn (s : State) : txInstr (takeTurn s) = txInstr s := txInstr_congr (takeTurn_cfg s) (takeTurn_tx s)

/-- Settles O47: the change that the turn makes, read in the state before the turn was taken. -/
theorem linkStateTransitions : Obligations.LinkStateTransitions := by
  intro s t hinv hstep hreset
  have hchange : LinkChange (takeTurn s) t (nextTurn s) := runTurn_linkChange hreset hstep
  generalize nextTurn s = u at hchange ⊢
  cases hchange with
  | kept hlink => exact .inl (hlink.trans (takeTurn_linkState s))
  | started hcmd hfrom hto =>
    rw [takeTurn_linkState] at hfrom
    exact .inr (.inl ⟨hfrom, hto, _, rfl, hcmd⟩)
  | terminated hcmd hfrom hto =>
    rw [takeTurn_linkState] at hfrom
    exact .inr (.inr (.inl ⟨hfrom, hto, _, rfl, hcmd⟩))
  | confirmed hbusy htx hconf hto =>
    rw [takeTurn_busy] at hbusy
    rw [txInstr_takeTurn] at htx
    exact .inr (.inr (.inr (.inl
      ⟨hinv.handshaking_of_ping hbusy htx, hto, hbusy, opcode_of_txInstr_ping htx, _, rfl, hconf⟩)))
  | preempted hbusy hsel hto =>
    obtain ⟨hfrom, hterm⟩ := select_eq_preempt hsel
    rw [takeTurn_linkState] at hfrom
    rw [takeTurn_busy] at hbusy
    rw [takeTurn_termPending] at hterm
    exact .inr (.inr (.inr (.inr (.inl ⟨hfrom, hto, hbusy, hterm, rfl⟩))))
  | released hbusy htx hcount hto =>
    rw [takeTurn_busy] at hbusy
    rw [txInstr_takeTurn] at htx
    rw [takeTurn_shutdownCount] at hcount
    exact .inr (.inr (.inr (.inr (.inr
      ⟨hinv.shuttingDown_of_shutdown hbusy htx, hto, hbusy, opcode_of_txInstr_shutdown htx, hcount, _, rfl⟩))))

end Sys2Proof.Machine
end

section
/-! SUPPORT. 43_telemetry.md R273 to R275: what one turn, of any agent, does to the poll cycle, to `seq` and to the events. -/

namespace Sys2Proof.Machine

variable {s t : State}

/-! ## The part of the state that belongs to the poll cycle -/

/-- What the accumulator holds of the replies to ACCEL, GYRO and POSITION (10_state.md R44). The velocities of the fourth reply
are written by the step that reads them, so no step finds them there. -/
structure Readings where
  accel : Vec3
  gyro : Vec3
  pose : Vec3 × Quat

/-- The record that the readings make with a number and the velocities of the last reply (R273). -/
def Readings.record (x : Readings) (seq : Word) (dr : Twist) : TelemetryRecord where
  sequence := seq
  accel := x.accel
  gyro := x.gyro
  pose := x.pose.1
  orient := x.pose.2
  deadReck := dr

def State.readings (s : State) : Readings := ⟨s.accAccel, s.accGyro, (s.accPose, s.accOrient)⟩

/-- The elements of the state that the telemetry rules speak of. -/
structure CycleView where
  cfg : Config
  active : Bool
  step : CycleStep
  seq : Word
  readings : Readings
  events : List Event

def State.cycleView (s : State) : CycleView := ⟨s.cfg, s.cycleActive, s.cycleStep, s.seq, s.readings, s.events⟩

/-- The step after a cycle step (10_state.md R42). -/
def CycleStep.next : CycleStep → CycleStep
  | .setup => .accel
  | .accel => .gyro
  | .gyro => .position
  | .position => .deadReckoning
  | .deadReckoning => .setup

/-- The readings once the reply `R` to the poll frame of a cycle step is stored (R261 to R264). -/
def CycleStep.store (units : AccelUnits) (R : Frame) (x : Readings) : CycleStep → Readings
  | .setup => x
  | .accel => { x with accel := convAccel units (Claims.field R 1) (Claims.field R 5) (Claims.field R 9) }
  | .gyro => { x with gyro := convGyro (Claims.field R 1) (Claims.field R 5) (Claims.field R 9) }
  | .position => { x with pose := convPose (Claims.field R 1) (Claims.field R 5) (Claims.field R 9) }
  | .deadReckoning => x

/-- What the turn `u`, from `s` to `t`, does to the poll cycle. -/
inductive CycleChange (s t : State) : Turn → Prop where
  /-- The cycle stands as it is, and only events that finish none are emitted. -/
  | kept {u : Turn} (new : List Event) (hnone : new.filterMap Claims.finished = [])
      (hview : t.cycleView = { s.cycleView with events := s.events ++ new }) : CycleChange s t u
  /-- START_CYCLE (42_link_session.md R233). -/
  | started {u : Turn} (hview : t.cycleView = { s.cycleView with active := true, step := .setup }) : CycleChange s t u
  /-- An ok reply to one of the first four poll frames. -/
  | stored (k : CycleStep) (R : Frame) (hk : k ≠ .deadReckoning) (hbusy : s.busy = true) (htx : txInstr s = .ok k.instr)
      (hview : t.cycleView =
        { s.cycleView with step := k.next, readings := k.store s.cfg.accelUnits R s.readings }) :
      CycleChange s t (.complete (.ok R))
  /-- An ok reply to the fifth: the cycle finishes with its record (R273). -/
  | published (R : Frame) (hbusy : s.busy = true) (htx : txInstr s = .ok .sensorDeadReckoning)
      (hview : t.cycleView =
        { s.cycleView with
          active := false
          step := .setup
          seq := s.seq + 1
          events := s.events ++ [.record (s.readings.record s.seq ⟨Claims.field R 1, Claims.field R 5⟩)] }) :
      CycleChange s t (.complete (.ok R))
  /-- A failed exchange or PREEMPT: the cycle finishes with an error (R274). -/
  | lost {u : Turn} (new : List Event) (reason : ErrorCode) (hnone : new.filterMap Claims.finished = [])
      (hview : t.cycleView =
        { s.cycleView with
          active := false
          step := .setup
          seq := s.seq + 1
          events := s.events ++ (new ++ [.cycleError s.seq reason]) }) :
      CycleChange s t u
  /-- RESET emits nothing and leaves no cycle (70_reset_and_hazards.md R361). -/
  | reset {p : Params} (hactive : t.cycleActive = false) (hevents : t.events = s.events) : CycleChange s t (.reset p)

/-- A turn that leaves every element of the view. -/
theorem CycleChange.same {u : Turn} (hview : t.cycleView = s.cycleView) : CycleChange s t u :=
  .kept [] rfl (by rw [hview, List.append_nil]; rfl)

/-- The change depends on the states' cycle and on the exchange in flight alone. -/
theorem CycleChange.congr {s' t' : State} {u : Turn} (h : CycleChange s t u) (hs : s'.cycleView = s.cycleView)
    (hflight : SameExchange s s') (ht : t'.cycleView = t.cycleView) : CycleChange s' t' u := by
  have hcfg : s'.cfg = s.cfg := congrArg CycleView.cfg hs
  have hseq : s'.seq = s.seq := congrArg CycleView.seq hs
  have hreadings : s'.readings = s.readings := congrArg CycleView.readings hs
  have hevents : s'.events = s.events := congrArg CycleView.events hs
  have hinstr : txInstr s' = txInstr s := txInstr_congr hcfg hflight.tx
  cases h with
  | kept new hnone hview => exact .kept new hnone (by rw [ht, hview, hs, hevents])
  | started hview => exact .started (by rw [ht, hview, hs])
  | stored k R hk hbusy htx hview =>
    exact .stored k R hk (hflight.busy.trans hbusy) (hinstr.trans htx) (by rw [ht, hview, hs, hcfg, hreadings])
  | published R hbusy htx hview =>
    exact .published R (hflight.busy.trans hbusy) (hinstr.trans htx) (by rw [ht, hview, hs, hseq, hreadings, hevents])
  | lost new reason hnone hview => exact .lost new reason hnone (by rw [ht, hview, hs, hseq, hevents])
  | reset hactive hev =>
    exact .reset ((congrArg CycleView.active ht).trans hactive)
      ((congrArg CycleView.events ht).trans (hev.trans hevents.symm))

/-! ## The host commands -/

/-- The poll cycle and the list of turns stand in `t` as they do in `s`. -/
structure SameCycle (s t : State) : Prop where
  view : t.cycleView = s.cycleView
  turns : t.turns = s.turns

theorem sameCycle_of_next_respond {r : ErrorCode} {u : State} (h : (.next (respond r u) : Result) = .next t)
    (hu : SameCycle s u) : SameCycle s t := by
  cases h
  exact ⟨hu.view, hu.turns⟩

theorem execStart_sameCycle (a b : Word) (h : execStart a b s = .next t) : SameCycle s t := by
  unfold execStart at h
  split at h <;> exact sameCycle_of_next_respond h ⟨rfl, rfl⟩

theorem execSetVelocity_sameCycle (lin ang : Word) (h : execSetVelocity lin ang s = .next t) : SameCycle s t := by
  unfold execSetVelocity at h
  split at h
  · exact sameCycle_of_next_respond h ⟨rfl, rfl⟩
  · split at h <;> exact sameCycle_of_next_respond h ⟨rfl, rfl⟩

theorem execTerminate_sameCycle (a b : Word) (h : execTerminate a b s = .next t) : SameCycle s t := by
  unfold execTerminate at h
  split at h <;> exact sameCycle_of_next_respond h ⟨rfl, rfl⟩

theorem exec_sameCycle_of_not_frame {i : Instr} (hi : Claims.isFrame i = false) (h : exec i s = .next t) : SameCycle s t := by
  cases i with
  | velocity | sensorSetup | sensorAccel | sensorGyro | sensorPosition | sensorDeadReckoning | ping | ack | shutdown =>
    exact Bool.noConfusion hi
  | start a b => exact execStart_sameCycle a b h
  | setVelocity lin ang => exact execSetVelocity_sameCycle lin ang h
  | terminate a b => exact execTerminate_sameCycle a b h
  | hostReservedZero | hostReservedLow | hostReservedHigh => exact sameCycle_of_next_respond h ⟨rfl, rfl⟩

/-! ## The Sequencer's issue (42_link_session.md R230) -/

/-- What an issue writes before it sends its frame. -/
def Action.prepare (s : State) : Action → State
  | .preempt => { Machine.preempt s with shutdownCount := nextShutdownCount (Machine.preempt s).shutdownCount }
  | .shutdown => { s with shutdownCount := nextShutdownCount s.shutdownCount }
  | .ping => s
  | .ack => s
  | .sensor _ => s
  | .velocity => { s with slotValid := false }
  | .startCycle => Machine.startCycle s

/-- The frame an action sends. -/
def Action.frame (s : State) : Action → Frame
  | .preempt => encodeShutdown s.cfg
  | .shutdown => encodeShutdown s.cfg
  | .ping => encodeProbe
  | .ack => encodeAck s.cfg
  | .sensor k => encodePoll k.opcode
  | .velocity => velocityFrame s.slotLin s.slotAng
  | .startCycle => encodePoll Config.opSetup

/-- Where VELOCITY's issue goes on at all, its frame exists. -/
theorem issueVelocity_next {lin ang : Word} (h : issueVelocity lin ang s = .next t) :
    t = sendFrame (velocityFrame lin ang) { s with slotValid := false } := by
  unfold issueVelocity at h
  split at h
  · next F hF =>
    unfold encodeVelocity at hF
    split at hF
    · cases hF
      exact (Host.Outcome.next.inj h).symm
    · cases hF
  · cases h

/-- All that an issue can do: it prepares the state for its action and sends the action's frame. -/
theorem exec_issue_next {i : Instr} (hframe : selectedFrame s = some i) (h : exec i s = .next t) :
    ∃ a, select s = some a ∧ a.instr s = i ∧ t = sendFrame (a.frame s) (a.prepare s) := by
  obtain ⟨hbusy, hbus, a, hsel, rfl⟩ := selectedFrame_eq_some.1 hframe
  refine ⟨a, hsel, rfl, ?_⟩
  cases a with
  | preempt =>
    cases (exec_preempt hbusy hbus hsel).symm.trans h
    rw [Action.frame, Action.prepare, sendShutdown, preempt_cfg]
  | shutdown =>
    have hissue : issueShutdown s = .next t := (exec_shutdown_issue hbusy hframe).symm.trans h
    rw [issueShutdown, if_neg (by simp [hsel])] at hissue
    exact (Host.Outcome.next.inj hissue).symm
  | ping => exact (Host.Outcome.next.inj ((exec_ping_issue hbusy hframe).symm.trans h)).symm
  | ack => exact (Host.Outcome.next.inj ((exec_ack_issue hbusy hframe).symm.trans h)).symm
  | sensor k => exact (Host.Outcome.next.inj ((exec_poll_issue k hbusy hbus hsel).symm.trans h)).symm
  | velocity => exact issueVelocity_next ((exec_velocity_issue hbusy hframe).symm.trans h)
  | startCycle => exact (Host.Outcome.next.inj ((exec_startCycle hbusy hbus hsel).symm.trans h)).symm

theorem Action.prepare_turns (a : Action) (s : State) : (a.prepare s).turns = s.turns := by
  cases a with
  | preempt => exact Machine.preempt_turns s
  | shutdown | ping | ack | sensor | velocity | startCycle => rfl

/-- Only PREEMPT and START_CYCLE touch the cycle. -/
theorem Action.prepare_cycleChange (a : Action) (F : Frame) (u : Turn) : CycleChange s (sendFrame F (a.prepare s)) u := by
  cases a with
  | preempt =>
    cases hactive : s.cycleActive with
    | true => exact .lost [] .cyclePreempted rfl (by simp [Action.prepare, preempt_eq, hactive, State.cycleView, State.readings])
    | false => exact .same (by simp [Action.prepare, preempt_eq, hactive, State.cycleView, State.readings])
  | startCycle => exact .started rfl
  | shutdown | ping | ack | sensor | velocity => exact .same rfl

/-! ## The completion (41_transport.md R186) -/

/-- The state once the ok reply `R` to the poll frame of a cycle step is taken (42_link_session.md R240 to R244). -/
def CycleStep.accept (R : Frame) (s : State) : CycleStep → State
  | .setup => { s with cycleStep := .accel }
  | .accel =>
    { s with
      accAccel := convAccel s.cfg.accelUnits (Claims.field R 1) (Claims.field R 5) (Claims.field R 9)
      cycleStep := .gyro }
  | .gyro => { s with accGyro := convGyro (Claims.field R 1) (Claims.field R 5) (Claims.field R 9), cycleStep := .position }
  | .position =>
    { s with
      accPose := (convPose (Claims.field R 1) (Claims.field R 5) (Claims.field R 9)).1
      accOrient := (convPose (Claims.field R 1) (Claims.field R 5) (Claims.field R 9)).2
      cycleStep := .deadReckoning }
  | .deadReckoning => finishCycleOk { s with accDr := ⟨Claims.field R 1, Claims.field R 5⟩ }

theorem complete_of_ok (k : CycleStep) {R : Frame} (hok : s.outcome = .ok R) (hrx : s.rx = Memory.ofFrame R) :
    k.complete s = k.accept R s := by
  cases k with
  | setup => exact completeSetup_of_ok hok
  | accel => exact completeAccel_of_ok hok hrx
  | gyro => exact completeGyro_of_ok hok hrx
  | position => exact completePosition_of_ok hok hrx
  | deadReckoning => exact completeDeadReckoning_of_ok hok hrx

/-- A completion, from `s` to `t`: it ends the exchange, keeps the list of turns and changes the cycle. -/
structure Completion (s t : State) : Prop where
  busy : t.busy = false
  turns : t.turns = s.turns
  change : CycleChange s t (.complete s.outcome)

theorem completion_accept (k : CycleStep) {R : Frame} (hbusy : s.busy = true) (htx : txInstr s = .ok k.instr)
    (hok : s.outcome = .ok R) : Completion s (k.accept R (deliver s)) := by
  cases k with
  | setup | accel | gyro | position => exact ⟨rfl, rfl, hok ▸ .stored _ R (by decide) hbusy htx rfl⟩
  | deadReckoning => exact ⟨rfl, rfl, hok ▸ .published R hbusy htx rfl⟩

theorem completion_poll (k : CycleStep) (hbusy : s.busy = true) (htx : txInstr s = .ok k.instr) (h : exec k.instr s = .next t) :
    Completion s t := by
  cases (exec_poll_complete k hbusy htx).symm.trans h
  cases ho : s.outcome with
  | ok R =>
    rw [complete_of_ok k ((deliver_outcome s).trans ho) (deliver_rx_of_ok ho)]
    exact completion_accept k hbusy htx ho
  | fail e =>
    rw [complete_of_fail k ((deliver_outcome s).trans ho), sensorFail_eq_cycleLost]
    exact ⟨rfl, rfl, .lost [.xferError k.opcode (Claims.reason e)] (Claims.reason e) rfl rfl⟩

/-- The report of a transport error finishes no cycle. -/
theorem filterMap_finished_reports (op : Byte) (o : XferOutcome) : (Claims.reports op o).filterMap Claims.finished = [] := by
  cases o <;> rfl

theorem completion_ping : Completion s (completePing (deliver s)) := by
  by_cases hconf : Claims.Confirms s.outcome
  · rw [completePing_of_confirms hconf]
    exact ⟨rfl, rfl, .same rfl⟩
  · rw [completePing_of_not_confirms hconf, completePing.probeFailed, reportProbeStall_eq]
    refine ⟨rfl, rfl, .kept _ ?_ rfl⟩
    split <;> rfl

theorem exec_completion {i : Instr} (hbusy : s.busy = true) (htx : txInstr s = .ok i) (h : exec i s = .next t) :
    Completion s t := by
  rcases decodeFrame_ok htx with ⟨lin, ang, rfl⟩ | rfl | rfl | rfl | rfl | rfl | rfl | rfl | rfl
  · cases (exec_velocity_complete hbusy htx).symm.trans h
    rw [surfaceError_eq]
    exact ⟨rfl, rfl, .kept _ (filterMap_finished_reports _ _) rfl⟩
  · exact completion_poll .setup hbusy htx h
  · exact completion_poll .accel hbusy htx h
  · exact completion_poll .gyro hbusy htx h
  · exact completion_poll .position hbusy htx h
  · exact completion_poll .deadReckoning hbusy htx h
  · cases (exec_ping_complete hbusy htx).symm.trans h
    exact completion_ping
  · cases (exec_ack_complete hbusy htx).symm.trans h
    rw [completeAck, surfaceError_eq]
    exact ⟨rfl, rfl, .kept _ (filterMap_finished_reports _ _) rfl⟩
  · cases (exec_shutdown_complete hbusy htx).symm.trans h
    rw [completeShutdown, surfaceError_eq]
    split <;> exact ⟨rfl, rfl, .kept _ (filterMap_finished_reports _ _) rfl⟩

/-! ## The turns -/

/-- No turn writes the list of turns. -/
theorem runTurn_turns {u : Turn} (h : runTurn u s = .next t) : t.turns = s.turns := by
  rcases runTurn_next h with ⟨-, ⟨-, rfl⟩ | ⟨i, hframe, hi⟩⟩ | ⟨w, -, hw⟩ | ⟨o, -, ⟨-, rfl⟩ | ⟨i, hbusy, htx, hi⟩⟩ |
    ⟨-, rfl⟩ | ⟨-, rfl⟩ | ⟨p, c, -, -, rfl⟩
  · rfl
  · obtain ⟨a, -, -, rfl⟩ := exec_issue_next hframe hi
    exact a.prepare_turns s
  · exact (exec_sameCycle_of_not_frame (isFrame_decodeHost w) hw).turns
  · rfl
  · exact (exec_completion (s := { s with outcome := o }) hbusy htx hi).turns
  · rfl
  · rfl
  · rfl

theorem runTurn_cycleChange {u : Turn} (h : runTurn u s = .next t) : CycleChange s t u := by
  rcases runTurn_next h with ⟨-, ⟨-, rfl⟩ | ⟨i, hframe, hi⟩⟩ | ⟨w, -, hw⟩ | ⟨o, rfl, ⟨-, rfl⟩ | ⟨i, hbusy, htx, hi⟩⟩ |
    ⟨-, rfl⟩ | ⟨-, rfl⟩ | ⟨p, c, rfl, -, rfl⟩
  · exact .same rfl
  · obtain ⟨a, -, -, rfl⟩ := exec_issue_next hframe hi
    exact a.prepare_cycleChange (a.frame s) u
  · exact .same (exec_sameCycle_of_not_frame (isFrame_decodeHost w) hw).view
  · exact .same rfl
  · exact (exec_completion (s := { s with outcome := o }) hbusy htx hi).change.congr rfl ⟨rfl, rfl, rfl⟩ rfl
  · exact .same rfl
  · exact .same rfl
  · exact .reset rfl rfl

theorem takeTurn_cycleView (s : State) : (takeTurn s).cycleView = s.cycleView := by
  rw [takeTurn_eq]
  rfl

theorem step_turns (h : step s = .next t) : t.turns = s.turns.tail := by
  rw [runTurn_turns h, takeTurn_eq]

theorem step_cycleChange (h : step s = .next t) : CycleChange s t (nextTurn s) := by
  have htake := sameExchange_takeTurn s
  exact (runTurn_cycleChange h).congr (takeTurn_cycleView s).symm ⟨htake.busy.symm, htake.tx.symm, htake.rx.symm⟩ rfl

end Sys2Proof.Machine
end

section
/-! SUPPORT. 43_telemetry.md R276: how many cycles finish over a run, and with which numbers. -/

namespace Sys2Proof.Machine

variable {s t : State}

/-- From `s` to `t`, `M` cycles finish: their events carry the `M` numbers from `seq` on, and `seq` moves past them. -/
def Finishes (M : Nat) (s t : State) : Prop :=
  ∃ new, t.events = s.events ++ new ∧
    new.filterMap Claims.finished = (List.range M).map (fun k => s.seq + BitVec.ofNat 32 k) ∧
    t.seq = s.seq + BitVec.ofNat 32 M

theorem Finishes.refl (s : State) : Finishes 0 s s := ⟨[], by simp⟩

theorem Finishes.trans {M N : Nat} {u : State} (hst : Finishes M s t) (htu : Finishes N t u) : Finishes (M + N) s u := by
  obtain ⟨new, hevents, hnumbers, hseq⟩ := hst
  obtain ⟨new', hevents', hnumbers', hseq'⟩ := htu
  refine ⟨new ++ new', by rw [hevents', hevents, List.append_assoc], ?_, ?_⟩
  · rw [List.filterMap_append, hnumbers, hnumbers', hseq, List.range_add, List.map_append, List.map_map]
    simp only [Function.comp_def, BitVec.ofNat_add, BitVec.add_assoc]
  · rw [hseq', hseq, BitVec.ofNat_add, BitVec.add_assoc]

theorem finishes_zero {new : List Event} (hevents : t.events = s.events ++ new)
    (hnone : new.filterMap Claims.finished = []) (hseq : t.seq = s.seq) : Finishes 0 s t :=
  ⟨new, hevents, hnone, hseq.trans (BitVec.add_zero s.seq).symm⟩

theorem finishes_one {new : List Event} (hevents : t.events = s.events ++ new)
    (hnumber : new.filterMap Claims.finished = [s.seq]) (hseq : t.seq = s.seq + 1) : Finishes 1 s t :=
  ⟨new, hevents, by simp [hnumber], hseq⟩

/-- A turn that is no reset finishes one cycle or none. -/
theorem CycleChange.finishes {u : Turn} (h : CycleChange s t u) (hreset : Claims.notReset u) : ∃ M, Finishes M s t := by
  cases h with
  | kept new hnone hview =>
    exact ⟨0, finishes_zero (congrArg CycleView.events hview) hnone (congrArg CycleView.seq hview)⟩
  | started hview | stored _ _ _ _ _ hview =>
    exact ⟨0, finishes_zero ((congrArg CycleView.events hview).trans (List.append_nil _).symm) rfl
      (congrArg CycleView.seq hview)⟩
  | published R _ _ hview =>
    exact ⟨1, finishes_one (congrArg CycleView.events hview) rfl (congrArg CycleView.seq hview)⟩
  | lost new reason hnone hview =>
    have hnumber : (new ++ [Event.cycleError s.seq reason]).filterMap Claims.finished = [s.seq] := by
      rw [List.filterMap_append, hnone]
      rfl
    exact ⟨1, finishes_one (congrArg CycleView.events hview) hnumber (congrArg CycleView.seq hview)⟩
  | reset => exact absurd rfl (hreset _)

/-- A run of `n + 1` steps: a first one, and `n` more. -/
theorem run_first (M : Host.Core) (n : Nat) {s t : M.State} (h : M.run (n + 1) s = .next t) :
    ∃ u, M.step s = .next u ∧ M.run n u = .next t := by
  rw [Host.Core.run.eq_2] at h
  split at h
  · next u hu => exact ⟨u, hu, h⟩
  · cases h
  · cases h

theorem nextTurn_of_turns {u : Turn} {us : List Turn} (h : s.turns = u :: us) : nextTurn s = u := by
  rw [nextTurn, h]

theorem run_finishes (n : Nat) (hlisted : n ≤ s.turns.length) (hreset : ∀ u ∈ s.turns.take n, Claims.notReset u)
    (h : Host.Core.run Sys2Proof.core n s = .next t) : ∃ M, Finishes M s t := by
  induction n generalizing s with
  | zero =>
    cases h
    exact ⟨0, .refl _⟩
  | succ n ih =>
    obtain ⟨v, hstep, hrun⟩ := run_first Sys2Proof.core n h
    cases hturns : s.turns with
    | nil => simp [hturns] at hlisted
    | cons u us =>
      rw [hturns] at hlisted hreset
      have hrest : v.turns = us := by rw [step_turns hstep, hturns, List.tail_cons]
      obtain ⟨M, hfirst⟩ := (step_cycleChange hstep).finishes (nextTurn_of_turns hturns ▸ hreset u List.mem_cons_self)
      obtain ⟨N, hlater⟩ := ih (s := v) (hrest ▸ Nat.le_of_succ_le_succ hlisted)
        (hrest ▸ fun w hw => hreset w (List.mem_cons_of_mem u hw)) hrun
      exact ⟨M + N, hfirst.trans hlater⟩

/-- Settles O54, by induction on the length of the run: each turn finishes one cycle or none, and the counts add up. -/
theorem sequenceLaw : Obligations.SequenceLaw := by
  intro n s t hlisted hreset hrun
  obtain ⟨M, new, hfinishes⟩ := run_finishes n hlisted hreset hrun
  exact ⟨new, M, hfinishes⟩

end Sys2Proof.Machine
end

section
/-! SUPPORT. 43_telemetry.md R267, R268: a pattern whose exponent and fraction do not exceed those of 1.0 is finite and of magnitude at
most 1.0, and the configuration functions give such a pattern or a NaN. -/

namespace Sys2Proof

variable {v : Word}

/-! ## Patterns -/

/-- Exponent and fraction, as one number. -/
theorem toNat_extractLsb'_31 (v : Word) :
    (v.extractLsb' 0 31).toNat = (v.extractLsb' 23 8).toNat * 2 ^ 23 + (v.extractLsb' 0 23).toNat := by
  have hsplit : v.extractLsb' 0 31 = v.extractLsb' 23 8 ++ v.extractLsb' 0 23 := by
    rw [BitVec.extractLsb'_append_extractLsb'_eq_extractLsb' (by decide)]
  rw [hsplit, BitVec.toNat_append, ← Nat.shiftLeft_add_eq_or_of_lt (v.extractLsb' 0 23).isLt, Nat.shiftLeft_eq]

/-- Exponent and fraction do not exceed those of 1.0. -/
def AtMostOne (v : Word) : Prop := v.extractLsb' 0 31 ≤ 0x3F800000

theorem AtMostOne.bound (h : AtMostOne v) : (v.extractLsb' 23 8).toNat * 2 ^ 23 + (v.extractLsb' 0 23).toNat ≤ 127 * 2 ^ 23 := by
  rw [← toNat_extractLsb'_31]
  exact h

theorem AtMostOne.isFinite (h : AtMostOne v) : isFinite v = true := by
  have hbound := h.bound
  rw [isFinite_iff]
  intro hexp
  rw [hexp] at hbound
  simp at hbound
  omega

/-- The magnitude of a finite pattern without its sign. -/
theorem abs_value (v : Word) :
    |Claims.value v| = if v.extractLsb' 23 8 = 0 then ((v.extractLsb' 0 23).toNat : ℚ) * 2 ^ (-149 : ℤ)
      else ((2 ^ 23 + (v.extractLsb' 0 23).toNat : ℕ) : ℚ) * 2 ^ (((v.extractLsb' 23 8).toNat : ℤ) - 150) := by
  have hsign : |(if v.getLsbD 31 = true then -1 else 1 : ℚ)| = 1 := by split <;> simp
  rw [Claims.value, abs_mul, hsign, one_mul, abs_of_nonneg]
  split <;> positivity

theorem mul_two_zpow_neg_le_one {m k : ℕ} (h : m ≤ 2 ^ k) : (m : ℚ) * 2 ^ (-k : ℤ) ≤ 1 := by
  rw [zpow_neg, zpow_natCast, ← div_eq_mul_inv, div_le_one (by positivity)]
  exact_mod_cast h

/-- With exponent 127 the fraction is 0; with a smaller one, the fraction is at most doubled by its hidden bit. -/
theorem AtMostOne.significand_le (h : AtMostOne v) :
    2 ^ 23 + (v.extractLsb' 0 23).toNat ≤ 2 ^ (150 - (v.extractLsb' 23 8).toNat) := by
  have hbound := h.bound
  have hfrac := (v.extractLsb' 0 23).isLt
  rcases Nat.lt_or_ge (v.extractLsb' 23 8).toNat 127 with hexp | hexp
  · calc 2 ^ 23 + (v.extractLsb' 0 23).toNat
      _ ≤ 2 ^ 24 := by omega
      _ ≤ 2 ^ (150 - (v.extractLsb' 23 8).toNat) := Nat.pow_le_pow_right (by decide) (by omega)
  · have hone : (v.extractLsb' 23 8).toNat = 127 := by omega
    rw [hone]
    omega

theorem AtMostOne.abs_value_le (h : AtMostOne v) : |Claims.value v| ≤ 1 := by
  rw [abs_value]
  split
  · have hfrac := (v.extractLsb' 0 23).isLt
    exact mul_two_zpow_neg_le_one (k := 149) (by omega)
  · have hbound := h.bound
    have hexp : ((v.extractLsb' 23 8).toNat : ℤ) - 150 = -(150 - (v.extractLsb' 23 8).toNat : ℕ) := by omega
    rw [hexp]
    exact mul_two_zpow_neg_le_one h.significand_le

theorem atMostOne_of_isZero (h : isZero v = true) : AtMostOne v := by
  obtain ⟨hexp, hfrac⟩ : v.extractLsb' 23 8 = 0 ∧ v.extractLsb' 0 23 = 0 := by simpa [isZero, expField, fracField] using h
  rw [AtMostOne, BitVec.le_def, toNat_extractLsb'_31, hexp, hfrac]
  decide

theorem isZero_eq_false_of_not_finite (h : isFinite v = false) : isZero v = false := by
  rw [isFinite_eq_false_iff] at h
  simp [isZero, expField, h]

/-! ## What the free values are made into -/

theorem isNaN_toNaN (v : Word) : isNaN (toNaN v) = true := by
  unfold toNaN
  split
  · next h => exact h
  · decide

theorem atMostOne_toUnit (v : Word) : AtMostOne (toUnit v) := by
  unfold toUnit
  split
  · next h => exact h
  · rw [AtMostOne]
    decide

theorem isNaN_sin32 (h : isFinite v = false) : isNaN (sin32 v) = true := by
  rw [sin32, isZero_eq_false_of_not_finite h, h]
  exact isNaN_toNaN _

theorem isNaN_cos32 (h : isFinite v = false) : isNaN (cos32 v) = true := by
  rw [cos32, isZero_eq_false_of_not_finite h, h]
  exact isNaN_toNaN _

theorem atMostOne_sin32 (h : isFinite v = true) : AtMostOne (sin32 v) := by
  rw [sin32, h]
  split
  · next hzero => exact atMostOne_of_isZero hzero
  · exact atMostOne_toUnit _

theorem atMostOne_cos32 (h : isFinite v = true) : AtMostOne (cos32 v) := by
  rw [cos32, h]
  split
  · exact BitVec.le_refl _
  · exact atMostOne_toUnit _

theorem sin32_of_isZero (h : isZero v = true) : sin32 v = v := if_pos h

theorem cos32_of_isZero (h : isZero v = true) : cos32 v = 0x3F800000 := if_pos h

/-- Settles O57: both functions give a NaN where the argument is not finite, and a pattern at most that of 1.0 elsewhere. -/
theorem configurationFunctionsMeetTheirProperties : Obligations.ConfigurationFunctionsMeetTheirProperties := by
  refine ⟨sin32_of_isZero (by decide), sin32_of_isZero (by decide), cos32_of_isZero (by decide), cos32_of_isZero (by decide),
    fun v w => ⟨fun h => ⟨isNaN_sin32 h, isNaN_cos32 h⟩, fun h => ?_, isNaN_toNaN _⟩⟩
  have hsin := atMostOne_sin32 h
  have hcos := atMostOne_cos32 h
  exact ⟨hsin.isFinite, hcos.isFinite, hsin.abs_value_le, hcos.abs_value_le⟩

end Sys2Proof
end

section
/-! SUPPORT. 43_telemetry.md R277: over a run, the reply behind each reading of the active cycle is found going back from the step that
the cycle has reached, and it came in that same cycle. -/

namespace Sys2Proof.Machine

variable {s t : State}

/-! ## The poll frame in flight is the active cycle's -/

/-- A poll frame in flight belongs to the active cycle, at its step (10_state.md R41, R42). -/
def PollsBelong (s : State) : Prop :=
  s.busy = true → ∀ k : CycleStep, txInstr s = .ok k.instr → s.cycleActive = true ∧ s.cycleStep = k

theorem Inv.pollsBelong (h : Inv s) : PollsBelong s := by
  intro hbusy k htx
  have hflight := h.flight hbusy
  rw [flightOk, htx] at hflight
  cases k <;> exact hflight.2

theorem pollsBelong_of_not_busy (h : s.busy = false) : PollsBelong s := fun hbusy => absurd (h.symm.trans hbusy) Bool.false_ne_true

theorem PollsBelong.congr (h : PollsBelong s) (hview : t.cycleView = s.cycleView) (hflight : SameExchange s t) : PollsBelong t := by
  have hactive : t.cycleActive = s.cycleActive := congrArg CycleView.active hview
  have hstep : t.cycleStep = s.cycleStep := congrArg CycleView.step hview
  rw [PollsBelong, hflight.busy, txInstr_congr (congrArg CycleView.cfg hview) hflight.tx, hactive, hstep]
  exact h

theorem fieldAt_ofFrame (F : Frame) (o : Nat) : Claims.fieldAt (Memory.ofFrame F) o = be32Get F o := by
  simp [Claims.fieldAt, be32Get]

/-- The frame an action sends is read as the action's instruction. -/
theorem txInstr_sendFrame (a : Action) (s : State) : txInstr (sendFrame (a.frame s) s) = .ok (a.instr s) := by
  cases a with
  | preempt | shutdown => exact txInstr_of_shutdown (Memory.read_ofFrame _ _)
  | ping => exact txInstr_of_ping (Memory.read_ofFrame _ _)
  | ack => exact txInstr_of_ack (Memory.read_ofFrame _ _)
  | sensor k => exact txInstr_of_poll k (Memory.read_ofFrame _ _)
  | velocity =>
    rw [txInstr_of_velocity (Memory.read_ofFrame _ _), sendFrame_tx, fieldAt_ofFrame, fieldAt_ofFrame, Action.frame,
      be32Get_velocityFrame_lin, be32Get_velocityFrame_ang, Action.instr]
  | startCycle => exact txInstr_of_poll .setup (Memory.read_ofFrame _ _)

theorem Action.prepare_cfg (a : Action) (s : State) : (a.prepare s).cfg = s.cfg := by
  cases a with
  | preempt => exact Machine.preempt_cfg s
  | shutdown | ping | ack | sensor | velocity | startCycle => rfl

/-- The cycle step whose poll frame an instruction is. -/
def pollStep : Instr → Option CycleStep
  | .sensorSetup => some .setup
  | .sensorAccel => some .accel
  | .sensorGyro => some .gyro
  | .sensorPosition => some .position
  | .sensorDeadReckoning => some .deadReckoning
  | _ => none

theorem pollStep_instr (k : CycleStep) : pollStep k.instr = some k := by
  cases k <;> rfl

/-- A poll frame is sent in the cycle that is active (selection clause 5) or that starts with it (R233). -/
theorem pollsBelong_issue {a : Action} (hsel : select s = some a) : PollsBelong (sendFrame (a.frame s) (a.prepare s)) := by
  intro _ k htx
  have hsent : txInstr (sendFrame (a.frame s) (a.prepare s)) = .ok (a.instr s) :=
    by
    rw [← txInstr_sendFrame a s]
    exact txInstr_congr (a.prepare_cfg s) rfl
  have hinstr : a.instr s = k.instr := Except.ok.inj (hsent.symm.trans htx)
  have hk : pollStep (a.instr s) = some k := hinstr ▸ pollStep_instr k
  cases a with
  | preempt | shutdown | ping | ack | velocity => cases hk
  | sensor j =>
    obtain rfl : j = k := Option.some.inj ((pollStep_instr j).symm.trans hk)
    obtain ⟨hstep, -, -, -, hactive⟩ : j = s.cycleStep ∧ s.linkState = .ready ∧ s.termPending = false ∧
      s.ackPending = false ∧ s.cycleActive = true := by simpa using select_cases hsel
    exact ⟨hactive, hstep.symm⟩
  | startCycle => exact ⟨rfl, Option.some.inj hk⟩

theorem runTurn_pollsBelong {u : Turn} (hs : PollsBelong s) (h : runTurn u s = .next t) : PollsBelong t := by
  rcases runTurn_next h with ⟨-, ⟨-, rfl⟩ | ⟨i, hframe, hi⟩⟩ | ⟨w, -, hw⟩ | ⟨o, -, ⟨-, rfl⟩ | ⟨i, hbusy, htx, hi⟩⟩ |
    ⟨-, rfl⟩ | ⟨-, rfl⟩ | ⟨p, c, -, -, rfl⟩
  · exact hs
  · obtain ⟨a, hsel, -, rfl⟩ := exec_issue_next hframe hi
    exact pollsBelong_issue hsel
  · exact hs.congr (exec_sameCycle_of_not_frame (isFrame_decodeHost w) hw).view
      (exec_sameExchange_of_not_frame (isFrame_decodeHost w) hw)
  · exact hs
  · exact pollsBelong_of_not_busy (exec_completion (s := { s with outcome := o }) hbusy htx hi).busy
  · exact hs.congr rfl (sameExchange_probeDelayFires s)
  · exact hs.congr rfl (sameExchange_pollTimerFires s)
  · exact pollsBelong_of_not_busy rfl

/-! ## One step of a run -/

theorem Leads.pollsBelong (h : Leads s t) (hs : PollsBelong s) : PollsBelong t := by
  obtain ⟨v, hstep, ht⟩ := h
  rw [ht]
  have hv : PollsBelong v := runTurn_pollsBelong (hs.congr (takeTurn_cycleView s) (sameExchange_takeTurn s)) hstep
  exact hv.congr rfl ⟨rfl, rfl, rfl⟩

theorem Leads.cycleChange (h : Leads s t) : CycleChange s t (nextTurn s) := by
  obtain ⟨v, hstep, ht⟩ := h
  exact (step_cycleChange hstep).congr rfl (.refl s) (ht ▸ rfl)

theorem opcode_of_txInstr_poll {k : CycleStep} (h : txInstr s = .ok k.instr) : s.tx.read 0 = k.opcode := by
  have hrow := decodeFrame_matches h
  rw [← Memory.toFrame_get _ (by decide)]
  cases k <;> exact (Laws.TableRow.and_ones _).symm.trans hrow

theorem record_not_mem_of_none {new : List Event} (hnone : new.filterMap Claims.finished = []) (x : TelemetryRecord) :
    Event.record x ∉ new := fun hx =>
  nomatch (List.filterMap_eq_nil_iff.1 hnone _ hx : some x.sequence = none)

/-- A record among the new events is that of the readings, published at the ok reply to DEAD_RECKONING. -/
theorem CycleChange.published_of_record {u : Turn} {new : List Event} {x : TelemetryRecord} (h : CycleChange s t u)
    (hevents : t.events = s.events ++ new) (hx : .record x ∈ new) :
    ∃ R, u = .complete (.ok R) ∧ s.busy = true ∧ txInstr s = .ok .sensorDeadReckoning ∧
      x = s.readings.record s.seq ⟨Claims.field R 1, Claims.field R 5⟩ := by
  have hnew : ∀ {new'}, t.events = s.events ++ new' → .record x ∈ new' := fun h' =>
    List.append_cancel_left (hevents.symm.trans h') ▸ hx
  cases h with
  | kept new' hnone hview => exact absurd (hnew (congrArg CycleView.events hview)) (record_not_mem_of_none hnone x)
  | started hview | stored _ _ _ _ _ hview =>
    exact absurd (hnew ((congrArg CycleView.events hview).trans (List.append_nil _).symm)) List.not_mem_nil
  | published R hbusy htx hview =>
    have hrecord := List.mem_singleton.1 (hnew (congrArg CycleView.events hview))
    exact ⟨R, rfl, hbusy, htx, Event.record.inj hrecord⟩
  | lost new' reason hnone hview =>
    rcases List.mem_append.1 (hnew (congrArg CycleView.events hview)) with hmem | hmem
    · exact absurd hmem (record_not_mem_of_none hnone x)
    · cases List.mem_singleton.1 hmem
  | reset _ hsame => exact absurd (hnew (hsame.trans (List.append_nil _).symm)) List.not_mem_nil

/-! ## Over a run -/

/-- From `c` to `n` one cycle is active, with one number and one configuration. -/
def OneCycle (r : Nat → State) (c n : Nat) : Prop :=
  ∀ m, c ≤ m → m ≤ n → (r m).cycleActive = true ∧ (r m).seq = (r n).seq ∧ (r m).cfg = (r n).cfg

section

variable {r : Nat → State} {c d n : Nat}

theorem OneCycle.refl (hactive : (r n).cycleActive = true) : OneCycle r n n := by
  intro m hcm hmn
  rw [Nat.le_antisymm hmn hcm]
  exact ⟨hactive, rfl, rfl⟩

theorem OneCycle.trans (hcd : OneCycle r c d) (hdn : OneCycle r d n) (hle : d ≤ n) : OneCycle r c n := by
  intro m hcm hmn
  rcases Nat.le_total d m with hdm | hmd
  · exact hdn m hdm hmn
  · obtain ⟨hactive, hseq, hcfg⟩ := hcd m hcm hmd
    obtain ⟨-, hseq', hcfg'⟩ := hdn d le_rfl hle
    exact ⟨hactive, hseq.trans hseq', hcfg.trans hcfg'⟩

/-- A step that keeps the cycle active, its number and the configuration keeps the cycle. -/
theorem OneCycle.step (hactive : (r n).cycleActive = true) (hactive' : (r (n + 1)).cycleActive = true)
    (hseq : (r (n + 1)).seq = (r n).seq) (hcfg : (r (n + 1)).cfg = (r n).cfg) : OneCycle r n (n + 1) := by
  intro m hnm hmn
  rcases Nat.le_succ_iff.1 hmn with hm | rfl
  · rw [Nat.le_antisymm hm hnm]
    exact ⟨hactive, hseq.symm, hcfg.symm⟩
  · exact ⟨hactive', rfl, rfl⟩

/-- At `c` the ok reply `R` to the poll frame of step `k` is taken, in the cycle that is active at `n`, and nothing is stored
between. -/
structure Replied (r : Nat → State) (k : CycleStep) (R : Frame) (c n : Nat) : Prop where
  before : c < n
  completes : Claims.Completes k.opcode R (r c)
  step : (r c).cycleStep = k
  same : OneCycle r c n
  readings : (r n).readings = k.store (r n).cfg.accelUnits R (r c).readings

end

/-- A run of at least `n + 1` steps that begins with no cycle active and no poll frame in flight outside of one. -/
structure CycleRun (r : Nat → State) (n : Nat) : Prop where
  idle : (r 0).cycleActive = false
  belongs : PollsBelong (r 0)
  leads : ∀ m, m ≤ n → Leads (r m) (r (m + 1))

theorem CycleRun.pollsBelong {r : Nat → State} {n : Nat} (h : CycleRun r n) {m : Nat} (hm : m ≤ n) : PollsBelong (r m) := by
  induction m with
  | zero => exact h.belongs
  | succ m ih => exact (h.leads m (by omega)).pollsBelong (ih (by omega))

/-- Five steps lead round the cycle. -/
theorem CycleStep.next_injective : Function.Injective CycleStep.next := by
  have hround : Function.LeftInverse (fun k : CycleStep => k.next.next.next.next) CycleStep.next := fun k => by
    cases k <;> rfl
  exact hround.injective

/-- A cycle that has reached the step after `k` has taken the reply to the poll frame of `k`. -/
theorem CycleRun.replied {r : Nat → State} {N : Nat} (h : CycleRun r N) {k : CycleStep} (hk : k ≠ .deadReckoning) {n : Nat}
    (hn : n ≤ N) (hactive : (r n).cycleActive = true) (hstep : (r n).cycleStep = k.next) : ∃ c R, Replied r k R c n := by
  induction n with
  | zero => exact absurd (h.idle.symm.trans hactive) Bool.false_ne_true
  | succ n ih =>
    have hle : n ≤ N := by omega
    have hchange := (h.leads n hle).cycleChange
    generalize hturn : nextTurn (r n) = u at hchange
    cases hchange with
    | kept new hnone hview =>
      have hcfg : (r (n + 1)).cfg = (r n).cfg := congrArg CycleView.cfg hview
      have hactive' := (congrArg CycleView.active hview).symm.trans hactive
      obtain ⟨c, R, hc⟩ := ih hle hactive' ((congrArg CycleView.step hview).symm.trans hstep)
      have hone : OneCycle r n (n + 1) := .step hactive' hactive (congrArg CycleView.seq hview) hcfg
      refine ⟨c, R, by have := hc.before; omega, hc.completes, hc.step, hc.same.trans hone (by omega), ?_⟩
      rw [hcfg, ← hc.readings]
      exact congrArg CycleView.readings hview
    | started hview =>
      have hround : k.next = CycleStep.deadReckoning.next := hstep.symm.trans (congrArg CycleView.step hview)
      exact absurd (CycleStep.next_injective hround) hk
    | stored j R hj hbusy htx hview =>
      obtain rfl : j = k := CycleStep.next_injective ((congrArg CycleView.step hview).symm.trans hstep)
      obtain ⟨hactive', hstep'⟩ := h.pollsBelong hle hbusy j htx
      have hcfg : (r (n + 1)).cfg = (r n).cfg := congrArg CycleView.cfg hview
      refine ⟨n, R, by omega, ⟨hbusy, opcode_of_txInstr_poll htx, hturn⟩, hstep',
        .step hactive' hactive (congrArg CycleView.seq hview) hcfg, ?_⟩
      rw [hcfg]
      exact congrArg CycleView.readings hview
    | published _ _ _ hview | lost _ _ _ hview =>
      exact absurd ((congrArg CycleView.active hview).symm.trans hactive) Bool.false_ne_true
    | reset hidle => exact absurd (hidle.symm.trans hactive) Bool.false_ne_true

/-- Settles O59: a record is published at the reply to DEAD_RECKONING, and from there each reply before it is found in turn. -/
theorem recordsNeverMixTwoCycles : Obligations.RecordsNeverMixTwoCycles := by
  intro r n new x hinv hidle hleads hevents hx
  have hrun : CycleRun r n := ⟨hidle, hinv.pollsBelong, hleads⟩
  obtain ⟨Rd, hturn, hbusy, htx, rfl⟩ := (hleads n le_rfl).cycleChange.published_of_record hevents hx
  obtain ⟨hactive, hstep⟩ := hrun.pollsBelong le_rfl hbusy .deadReckoning htx
  obtain ⟨p, Rp, hp⟩ := hrun.replied (k := .position) (by decide) le_rfl hactive hstep
  obtain ⟨hactiveP, -, -⟩ := hp.same p le_rfl hp.before.le
  obtain ⟨g, Rg, hg⟩ := hrun.replied (k := .gyro) (by decide) hp.before.le hactiveP hp.step
  have hgn : OneCycle r g n := hg.same.trans hp.same hp.before.le
  obtain ⟨hactiveG, -, hcfgG⟩ := hgn g le_rfl (hg.before.trans hp.before).le
  obtain ⟨a, Ra, ha⟩ := hrun.replied (k := .accel) (by decide) (hg.before.trans hp.before).le hactiveG hg.step
  have hreadings : (r n).readings =
      ⟨convAccel (r n).cfg.accelUnits (Claims.field Ra 1) (Claims.field Ra 5) (Claims.field Ra 9),
        convGyro (Claims.field Rg 1) (Claims.field Rg 5) (Claims.field Rg 9),
        convPose (Claims.field Rp 1) (Claims.field Rp 5) (Claims.field Rp 9)⟩ := by
    rw [hp.readings, hg.readings, ha.readings, hcfgG]
    rfl
  exact ⟨a, g, p, Ra, Rg, Rp, Rd, ha.before, hg.before, hp.before, ha.completes, hg.completes, hp.completes,
    ⟨hbusy, opcode_of_txInstr_poll (k := .deadReckoning) htx, hturn⟩,
    ha.same.trans hgn (hg.before.trans hp.before).le, congrArg Readings.accel hreadings, congrArg Readings.gyro hreadings,
    congrArg Readings.pose hreadings, rfl⟩

end Sys2Proof.Machine
end

section
/-! SUPPORT. 44_shutdown.md R301, R302, R305: the SHUTDOWN exchange, and the states in which its frame is issued. -/

namespace Sys2Proof.Machine

variable {s t : State}

/-! ## The exchange (R301, R302) -/

/-- R301: an issue chosen as SHUTDOWN sends from the state as it stands; no termination is taken. -/
theorem exec_shutdown_again (hbusy : s.busy = false) (hbus : s.busOpen = true) (hsel : select s = some .shutdown) :
    exec .shutdown s = .next (sendShutdown s) := by
  calc exec .shutdown s
    _ = issueShutdown s := exec_shutdown_issue hbusy (selectedFrame_of_select hbusy hbus hsel)
    _ = .next (sendShutdown s) := by rw [issueShutdown, if_neg (by simp [hsel])]

theorem completeShutdown_of_two (h : s.shutdownCount = 2) :
    completeShutdown s = release (surfaceError s.cfg.opShutdown s) := if_pos h

theorem completeShutdown_of_not_two (h : s.shutdownCount ≠ 2) :
    completeShutdown s = surfaceError s.cfg.opShutdown s := if_neg h

/-- Settles O39: the count decides at the completion whether the bus is released. -/
theorem shutdownExchange : Obligations.ShutdownExchange := by
  intro s
  refine ⟨fun hbusy hbus hlink hcount => ?issue, fun hbusy htx => ⟨fun hcount => ?second, fun hcount => ?first⟩⟩
  case issue =>
    exact ⟨_, exec_shutdown_again hbusy hbus (select_shutdown hlink hcount),
      sends_sendFrame (n := 14) (encodeShutdown_bytes s.cfg) _⟩
  case second =>
    rw [exec_shutdown_complete hbusy (txInstr_of_shutdown htx), completeShutdown_of_two (s := deliver s) hcount,
      surfaceError_eq]
    exact ⟨_, rfl, receives_received s _⟩
  case first =>
    rw [exec_shutdown_complete hbusy (txInstr_of_shutdown htx), completeShutdown_of_not_two (s := deliver s) hcount,
      surfaceError_eq]
    exact ⟨_, rfl, receives_received s _⟩

/-! ## The frames of ShuttingDown (R305) -/

/-- A turn that puts a frame in flight is the Sequencer's issue. -/
theorem runTurn_starts {u : Turn} (hbusy : s.busy = false) (hstart : t.busy = true) (h : runTurn u s = .next t) :
    ∃ a, select s = some a ∧ t = sendFrame (a.frame s) (a.prepare s) := by
  have hkept : ¬ SameExchange s t := fun hsame => by simp [hsame.busy, hbusy] at hstart
  rcases runTurn_next h with ⟨-, ⟨-, rfl⟩ | ⟨i, hframe, hi⟩⟩ | ⟨w, -, hw⟩ | ⟨o, -, ⟨-, rfl⟩ | ⟨i, hflight, -, -⟩⟩ |
    ⟨-, rfl⟩ | ⟨-, rfl⟩ | ⟨p, c, -, -, rfl⟩
  · exact absurd (.refl _) hkept
  · obtain ⟨a, hsel, -, ht⟩ := exec_issue_next hframe hi
    exact ⟨a, hsel, ht⟩
  · exact absurd (exec_sameExchange_of_not_frame (isFrame_decodeHost w) hw) hkept
  · exact absurd (.refl _) hkept
  · exact absurd hflight (by simp [hbusy])
  · exact absurd (sameExchange_probeDelayFires s) hkept
  · exact absurd (sameExchange_pollTimerFires s) hkept
  · exact Bool.noConfusion hstart

/-- The frame in flight after an issue is read as its action's instruction. -/
theorem txInstr_issued (a : Action) (s : State) : txInstr (sendFrame (a.frame s) (a.prepare s)) = .ok (a.instr s) := by
  rw [← txInstr_sendFrame a s]
  exact txInstr_congr (a.prepare_cfg s) rfl

/-- Clause 2 of the selection is the only one that holds in ShuttingDown (R231). -/
theorem select_of_shuttingDown {a : Action} (hlink : s.linkState = .shuttingDown) (hsel : select s = some a) :
    a = .shutdown := by
  have hcases := select_cases hsel
  simp only [hlink, reduceCtorEq, or_self, false_and, and_false, false_or, or_false] at hcases
  exact hcases.1

/-- A SHUTDOWN frame goes out in ShuttingDown: PREEMPT enters that state, and clause 2 of the selection asks for it. -/
theorem Action.prepare_linkState_of_shutdown {a : Action} (hsel : select s = some a) (hinstr : a.instr s = .shutdown) :
    (a.prepare s).linkState = .shuttingDown := by
  cases a with
  | preempt => rfl
  | shutdown =>
    obtain ⟨hlink, -⟩ : s.linkState = .shuttingDown ∧ s.shutdownCount < 2 := by simpa using select_cases hsel
    exact hlink
  | sensor k => cases k <;> exact Instr.noConfusion hinstr
  | ping | ack | velocity | startCycle => exact Instr.noConfusion hinstr

/-- Settles O53: the step is an issue, whose frame is read back as the instruction of the action that was selected. -/
theorem shutdownFramesOnlyInShuttingDown : Obligations.ShutdownFramesOnlyInShuttingDown := by
  intro s t _ hstep hbusy hstart
  obtain ⟨a, hsel, rfl⟩ := runTurn_starts ((takeTurn_busy s).trans hbusy) hstart hstep
  have hsent := txInstr_issued a (takeTurn s)
  have hcfg : (sendFrame (a.frame (takeTurn s)) (a.prepare (takeTurn s))).cfg = s.cfg :=
    (a.prepare_cfg _).trans (takeTurn_cfg s)
  rw [← hcfg]
  constructor
  · intro hlink
    obtain rfl : a = .shutdown := select_of_shuttingDown ((takeTurn_linkState s).trans hlink) hsel
    exact opcode_of_txInstr_shutdown hsent
  · intro hop
    exact Action.prepare_linkState_of_shutdown hsel (Except.ok.inj (hsent.symm.trans (txInstr_of_shutdown hop)))

end Sys2Proof.Machine
end

section
/-! SUPPORT. 60_exceptions.md R345, R346: the two timers. -/

namespace Sys2Proof.Machine

/-- A tick in `Ready` sets `poll_due`, whatever it finds there. -/
theorem pollTimerFires_of_ready {s : State} (h : s.linkState = .ready) : pollTimerFires s = { s with pollDue := true } := by
  rw [pollTimerFires, if_pos h]

/-- Settles O48: each turn is its timer's firing, in the state with the turn taken off the list. -/
theorem timersSetTheirBit : Obligations.TimersSetTheirBit := by
  intro s ts
  refine ⟨fun hturns => ?_, fun hturns hlink => ?_, fun hturns hlink => ?_⟩
  · rw [step_listed hturns, runTurn, probeDelayFires]
  · rw [step_listed hturns, runTurn, pollTimerFires_of_ready (s := { s with turns := ts }) hlink]
  · rw [step_listed hturns, runTurn, pollTimerFires_of_not_ready (s := { s with turns := ts }) hlink]

end Sys2Proof.Machine
end

section
/-! SUPPORT. 70_reset_and_hazards.md R360 to R362: the values reset leaves, the RESET step, and the parameters it samples. -/

namespace Sys2Proof.Machine

/-! ## The values (R360) -/

/-- Settles O14: every clause is a field of the reset state, or the status word of it, evaluated. -/
theorem resetValues : Obligations.ResetValues :=
  ⟨rfl, rfl, rfl, rfl, rfl, rfl, rfl, rfl, rfl, rfl, rfl, rfl, rfl, rfl⟩

/-- What a RESET does not restore, the configuration and the histories, is not in the status word. -/
@[simp] theorem statusWord_resetWith (c : Config) (s : State) : statusWord (resetWith c s) = statusWord State.reset := rfl

/-! ## The step (R361, R362) -/

@[simp] theorem takeTurn_events (s : State) : (takeTurn s).events = s.events := by rw [takeTurn_eq]

theorem runReset_of_wf {p : Params} (h : p.wf = true) (s : State) : runReset p s = .next (resetWith ⟨p, h⟩ s) := by
  rw [runReset, Params.toConfig_of_wf h]

/-! ## The parameters along a run (R12, R361) -/

/-- A run none of whose steps is a RESET ends with the configuration it began with. -/
theorem run_cfg {t : State} (n : Nat) {u : State}
    (hturns : ∀ m v, m < n → Host.Core.run Sys2Proof.core m t = .next v → Claims.notReset (nextTurn v))
    (hrun : Host.Core.run Sys2Proof.core n t = .next u) : u.cfg = t.cfg := by
  induction n generalizing u with
  | zero =>
    cases hrun
    rfl
  | succ n ih =>
    obtain ⟨v, hv, hstep⟩ := run_last Sys2Proof.core n hrun
    calc u.cfg
      _ = v.cfg := parametersAreHeldBetweenResets v u hstep (hturns n v n.lt_succ_self hv)
      _ = t.cfg := ih (fun m w hm => hturns m w (hm.trans n.lt_succ_self)) hv

/-- Settles O15: the RESET step answers `resetWith`, whose elements are those of the reset state, and its configuration is held
by every later run without a RESET. -/
theorem resetRestoresEveryElement : Obligations.ResetRestoresEveryElement := by
  intro s p hturn hwf
  obtain ⟨hlink, hbus, hbusy, hack, hprobe, hterm, hcount, hslot, hpoll, hactive, hcycle, hseq, hfails, hstatus⟩ := resetValues
  have hstep : step s = .next (resetWith ⟨p, hwf⟩ (takeTurn s)) := (step_of_reset hturn).trans (runReset_of_wf hwf _)
  exact ⟨_, hstep, rfl, hlink, hbus, hbusy, hack, hprobe, hterm, hcount, hslot, hpoll, hactive, hcycle, hseq, hfails,
    (statusWord_resetWith _ _).trans hstatus, chipSelectLevel_of_not_busy hbusy, takeTurn_events s, takeTurn_responses s,
    fun n u hturns hrun => congrArg Config.toParams (run_cfg n hturns hrun)⟩

end Sys2Proof.Machine
end

section
/-! SUPPORT. 30_encoding.md sections 2, 5 and 6: decoder and encoder agree, and byte 0 alone decides whether a frame is read. -/

namespace Sys2Proof

open Machine

variable {c : Config} {F : Frame}

/-! ## Frames -/

/-- The decoder reads a frame as TX is read where it holds that frame. -/
theorem decodeFrame_eq_txInstr (c : Config) (F : Frame) :
    decodeFrame c F = txInstr { State.reset with cfg := c, tx := Memory.ofFrame F } :=
  (txInstr_sent (s := { State.reset with cfg := c, tx := Memory.ofFrame F }) rfl).symm

theorem decodeFrame_of_poll (k : CycleStep) (h : F.get 0 = k.opcode) : decodeFrame c F = .ok k.instr := by
  rw [decodeFrame_eq_txInstr]
  exact txInstr_of_poll k ((Memory.read_ofFrame F 0).trans h)

theorem decodeFrame_of_ping (h : F.get 0 = Config.opPing) : decodeFrame c F = .ok .ping := by
  rw [decodeFrame_eq_txInstr]
  exact txInstr_of_ping ((Memory.read_ofFrame F 0).trans h)

theorem decodeFrame_of_ack (h : F.get 0 = c.opAck) : decodeFrame c F = .ok .ack := by
  rw [decodeFrame_eq_txInstr]
  exact txInstr_of_ack ((Memory.read_ofFrame F 0).trans h)

theorem decodeFrame_of_shutdown (h : F.get 0 = c.opShutdown) : decodeFrame c F = .ok .shutdown := by
  rw [decodeFrame_eq_txInstr]
  exact txInstr_of_shutdown ((Memory.read_ofFrame F 0).trans h)

theorem decodeFrame_velocityFrame (c : Config) (lin ang : Word) :
    decodeFrame c (velocityFrame lin ang) = .ok (.velocity lin ang) := by
  have hop : (velocityFrame lin ang).get 0 = Config.opVelocity := rfl
  rw [decodeFrame, if_pos hop, be32Get_velocityFrame_lin, be32Get_velocityFrame_ang]

theorem encodePoll_get_zero (op : Byte) : (encodePoll op).get 0 = op := rfl

/-- A frame is refused only where its byte 0 is none of the nine opcodes, and then by that byte. -/
theorem decodeFrame_error {e : DecodeError} (h : decodeFrame c F = .error e) :
    F.get 0 ∉ Claims.opcodes c ∧ e = .reservedFrameOpcode (F.get 0) := by
  unfold decodeFrame at h
  simp only at h
  repeat' split at h
  all_goals cases h
  next h0 h1 h2 h3 h4 h5 h6 h7 h8 =>
    refine ⟨fun hmem => ?_, rfl⟩
    simp only [Claims.opcodes, List.mem_cons, List.not_mem_nil, or_false] at hmem
    rcases hmem with h | h | h | h | h | h | h | h | h <;> contradiction

theorem isFrame_of_decodeFrame {i : Instr} (h : decodeFrame c F = .ok i) : Claims.isFrame i = true := by
  rcases decodeFrame_ok h with ⟨lin, ang, rfl⟩ | rfl | rfl | rfl | rfl | rfl | rfl | rfl | rfl <;> rfl

theorem mem_opcodes_of_matches {op : Byte} (hrow : (Laws.TableRow.Row.frame16 0xFF op).matches (.frame F))
    (hop : op ∈ Claims.opcodes c) : F.get 0 ∈ Claims.opcodes c :=
  ((Laws.TableRow.and_ones (F.get 0)).symm.trans hrow) ▸ hop

/-- A frame that is read has one of the nine opcodes: that of its row of the opcode table. -/
theorem opcode_of_decodeFrame {i : Instr} (h : decodeFrame c F = .ok i) : F.get 0 ∈ Claims.opcodes c := by
  have hrow := decodeFrame_matches h
  rcases decodeFrame_ok h with ⟨lin, ang, rfl⟩ | rfl | rfl | rfl | rfl | rfl | rfl | rfl | rfl <;>
    exact mem_opcodes_of_matches hrow (by simp [Claims.opcodes])

/-- Settles O4: the decoder answers or refuses, and either answer says whether byte 0 is listed. -/
theorem onlyListedOpcodesDecode : Obligations.OnlyListedOpcodesDecode := by
  intro c F
  cases h : decodeFrame c F with
  | ok i => exact ⟨fun _ => ⟨i, rfl, isFrame_of_decodeFrame h⟩, fun hno => absurd (opcode_of_decodeFrame h) hno⟩
  | error e =>
    obtain ⟨hno, rfl⟩ := decodeFrame_error h
    exact ⟨fun hmem => absurd hmem hno, fun _ => rfl⟩

/-! ## Host words -/

/-- The codes 0x8 to 0xF are their top bit and their low bits. -/
theorem append_low_of_top : ∀ k : BitVec 4, k.getLsbD 3 = true → 0b1#1 ++ k.extractLsb' 0 3 = k := by decide

/-- The codes 0x4 to 0x7. -/
theorem append_low_of_not_top : ∀ k : BitVec 4, k ≠ 0x0 → k ≠ 0x1 → k ≠ 0x2 → k ≠ 0x3 → k.getLsbD 3 = false →
    0b01#2 ++ k.extractLsb' 0 2 = k := by decide

theorem hostPacket_congr {k cmd : BitVec 4} (h : k = cmd) (a b : Word) : Packet.host ⟨k, a, b⟩ = .host ⟨cmd, a, b⟩ := by
  rw [h]

/-- Settles O2: each row keeps what its command code leaves open, and both arguments. -/
theorem encodeOfDecodedHostWordIsTheWord : Obligations.EncodeOfDecodedHostWordIsTheWord := by
  rintro c ⟨cmd, a, b⟩
  unfold decodeHost
  split
  · next h1 => exact hostPacket_congr h1.symm a b
  split
  · next h2 => exact hostPacket_congr h2.symm a b
  split
  · next h3 => exact hostPacket_congr h3.symm a b
  split
  · next h0 => exact hostPacket_congr h0.symm a b
  · next h1 h2 h3 h0 =>
    split
    · next htop => exact hostPacket_congr (append_low_of_top cmd htop) a b
    · next htop => exact hostPacket_congr (append_low_of_not_top cmd h0 h1 h2 h3 (Bool.eq_false_iff.2 htop)) a b

/-- A code whose top bit is set is none of 0x0 to 0x3. -/
theorem codes_of_top : ∀ k : BitVec 3, (0b1#1 ++ k) ∉ ([0x0, 0x1, 0x2, 0x3] : List (BitVec 4)) ∧
    (0b1#1 ++ k).getLsbD 3 = true := by decide

/-- Nor is one whose top bits are 01. -/
theorem codes_of_not_top : ∀ k : BitVec 2, (0b01#2 ++ k) ∉ ([0x0, 0x1, 0x2, 0x3] : List (BitVec 4)) ∧
    (0b01#2 ++ k).getLsbD 3 = false := by decide

theorem decodeHost_reservedLow (k : BitVec 2) (a b : Word) : decodeHost ⟨0b01#2 ++ k, a, b⟩ = .hostReservedLow k a b := by
  obtain ⟨hcode, htop⟩ := codes_of_not_top k
  simp only [List.mem_cons, not_or] at hcode
  obtain ⟨h0, h1, h2, h3, -⟩ := hcode
  rw [decodeHost, if_neg h1, if_neg h2, if_neg h3, if_neg h0, if_neg (Bool.eq_false_iff.1 htop),
    BitVec.extractLsb'_append_eq_right]

theorem decodeHost_reservedHigh (k : BitVec 3) (a b : Word) : decodeHost ⟨0b1#1 ++ k, a, b⟩ = .hostReservedHigh k a b := by
  obtain ⟨hcode, htop⟩ := codes_of_top k
  simp only [List.mem_cons, not_or] at hcode
  obtain ⟨h0, h1, h2, h3, -⟩ := hcode
  rw [decodeHost, if_neg h1, if_neg h2, if_neg h3, if_neg h0, if_pos htop, BitVec.extractLsb'_append_eq_right]

/-- Settles O1, instruction by instruction. -/
theorem decodeOfEncodeIsTheInstruction : Obligations.DecodeOfEncodeIsTheInstruction := by
  intro c i _
  cases i with
  | velocity lin ang => exact decodeFrame_velocityFrame c lin ang
  | sensorSetup => exact decodeFrame_of_poll (c := c) .setup (encodePoll_get_zero _)
  | sensorAccel => exact decodeFrame_of_poll (c := c) .accel (encodePoll_get_zero _)
  | sensorGyro => exact decodeFrame_of_poll (c := c) .gyro (encodePoll_get_zero _)
  | sensorPosition => exact decodeFrame_of_poll (c := c) .position (encodePoll_get_zero _)
  | sensorDeadReckoning => exact decodeFrame_of_poll (c := c) .deadReckoning (encodePoll_get_zero _)
  | ping => exact decodeFrame_of_ping (c := c) (F := encodeProbe) rfl
  | ack => exact decodeFrame_of_ack rfl
  | shutdown => exact decodeFrame_of_shutdown rfl
  | start | setVelocity | terminate | hostReservedZero => rfl
  | hostReservedLow k a b => exact congrArg Except.ok (decodeHost_reservedLow k a b)
  | hostReservedHigh k a b => exact congrArg Except.ok (decodeHost_reservedHigh k a b)

/-- Settles O3: five closed words, each evaluated. -/
theorem writtenOutWordsDecode : Obligations.WrittenOutWordsDecode := by
  intro c
  exact ⟨rfl, rfl, rfl, rfl, rfl⟩

end Sys2Proof
end

section
/-! SUPPORT. What a frame's meaning answers where it is enabled, said once: the issue of the selected action
(42_link_session.md R230), and the completion of the frame in flight (41_transport.md R186). -/

namespace Sys2Proof.Machine

variable {s t : State}

/-! ## The issue -/

/-- Where an action is selected its issue goes on; VELOCITY's asks for finite values in the slot. -/
theorem exec_issue {a : Action} (hbusy : s.busy = false) (hbus : s.busOpen = true) (hsel : select s = some a)
    (hslot : a = .velocity → isFinite s.slotLin = true ∧ isFinite s.slotAng = true) :
    exec (a.instr s) s = .next (sendFrame (a.frame s) (a.prepare s)) := by
  have hframe := selectedFrame_of_select hbusy hbus hsel
  cases a with
  | preempt => rw [Action.instr, exec_preempt hbusy hbus hsel, sendShutdown, Action.frame, Action.prepare,
    preempt_cfg]
  | shutdown => exact exec_shutdown_again hbusy hbus hsel
  | ping => exact exec_ping_issue hbusy hframe
  | ack => exact exec_ack_issue hbusy hframe
  | sensor k => exact exec_poll_issue k hbusy hbus hsel
  | velocity =>
    obtain ⟨hlin, hang⟩ := hslot rfl
    exact (exec_velocity_issue hbusy hframe).trans (issueVelocity_of_finite hlin hang s)
  | startCycle => exact exec_startCycle hbusy hbus hsel

/-- The frame an action sends is the encoding of its instruction. -/
theorem encode_instr (a : Action) (s : State) : encode s.cfg (a.instr s) = .frame (a.frame s) := by
  cases a with
  | sensor k => cases k <;> rfl
  | preempt | shutdown | ping | ack | velocity | startCycle => rfl

theorem runTurn_issue_of_selected {i : Instr} (h : selectedFrame s = some i) : runTurn .issue s = exec i s := by
  rw [runTurn, runIssue, h]

theorem runTurn_issue_of_none (h : selectedFrame s = none) : runTurn .issue s = .next s := by
  rw [runTurn, runIssue, h]

/-! ## The completion -/

/-- The completion rule of a frame, after the delivery; a host command has none. -/
def completionOf : Instr → State → State
  | .velocity _ _ => surfaceError Config.opVelocity
  | .sensorSetup => completeSetup
  | .sensorAccel => completeAccel
  | .sensorGyro => completeGyro
  | .sensorPosition => completePosition
  | .sensorDeadReckoning => completeDeadReckoning
  | .ping => completePing
  | .ack => completeAck
  | .shutdown => completeShutdown
  | .start _ _ | .setVelocity _ _ | .terminate _ _ => id
  | .hostReservedZero _ _ | .hostReservedLow _ _ _ | .hostReservedHigh _ _ _ => id

theorem completionOf_poll (k : CycleStep) : completionOf k.instr = k.complete := by
  cases k <;> rfl

/-- The meaning of the frame in flight is its completion. -/
theorem exec_inFlight {i : Instr} (hbusy : s.busy = true) (htx : txInstr s = .ok i) :
    exec i s = .next (completionOf i (deliver s)) := by
  rcases decodeFrame_ok htx with ⟨lin, ang, rfl⟩ | rfl | rfl | rfl | rfl | rfl | rfl | rfl | rfl
  · exact exec_velocity_complete hbusy htx
  · exact exec_poll_complete .setup hbusy htx
  · exact exec_poll_complete .accel hbusy htx
  · exact exec_poll_complete .gyro hbusy htx
  · exact exec_poll_complete .position hbusy htx
  · exact exec_poll_complete .deadReckoning hbusy htx
  · exact exec_ping_complete hbusy htx
  · exact exec_ack_complete hbusy htx
  · exact exec_shutdown_complete hbusy htx

theorem runTurn_complete_of_inFlight {i : Instr} (hbusy : s.busy = true) (htx : txInstr s = .ok i) (o : XferOutcome) :
    runTurn (.complete o) s = exec i { s with outcome := o } := by
  rw [runTurn, runComplete, if_pos hbusy, htx]

theorem runTurn_complete_of_idle (hbusy : s.busy = false) (o : XferOutcome) : runTurn (.complete o) s = .next s := by
  rw [runTurn, runComplete, if_neg (Bool.eq_false_iff.1 hbusy)]

/-- Settles O42: each clause is the turn's definition, where it is enabled. -/
theorem stepRunsTheDecodedInstruction : Obligations.StepRunsTheDecodedInstruction := by
  intro s ts i
  refine ⟨fun w hturns hdecode => ?_, fun o hturns hbusy hdecode => ?_, fun hturns hframe => ?_⟩
  · rw [step_listed hturns, runTurn, Except.ok.inj hdecode]
  · rw [step_listed hturns]
    exact runTurn_complete_of_inFlight (s := { s with turns := ts }) hbusy hdecode o
  · rw [step_listed hturns]
    exact runTurn_issue_of_selected (s := { s with turns := ts }) hframe

/-! ## What the completion rules write -/

/-- A poll frame's completion loses the cycle or takes the reply. -/
theorem poll_complete_cases (k : CycleStep) (s : State) :
    (∃ e, s.outcome = .fail e ∧ k.complete (deliver s) = sensorFail k.opcode e (deliver s)) ∨
      ∃ R, s.outcome = .ok R ∧ k.complete (deliver s) = k.accept R (deliver s) := by
  cases ho : s.outcome with
  | fail e => exact .inl ⟨e, rfl, complete_of_fail k ((deliver_outcome s).trans ho)⟩
  | ok R => exact .inr ⟨R, rfl, complete_of_ok k ((deliver_outcome s).trans ho) (deliver_rx_of_ok ho)⟩

/-- What no completion rule writes. -/
structure KeptByCompletion (u v : State) : Prop where
  cfg : v.cfg = u.cfg
  busy : v.busy = u.busy
  tx : v.tx = u.tx
  rx : v.rx = u.rx
  termPending : v.termPending = u.termPending
  shutdownCount : v.shutdownCount = u.shutdownCount
  slotValid : v.slotValid = u.slotValid
  slotLin : v.slotLin = u.slotLin
  slotAng : v.slotAng = u.slotAng
  pollDue : v.pollDue = u.pollDue
  responses : v.responses = u.responses
  outcome : v.outcome = u.outcome
  turns : v.turns = u.turns

theorem keptByCompletion_sensorFail (op : Byte) (e : XferError) (u : State) : KeptByCompletion u (sensorFail op e u) := by
  constructor <;> simp

theorem keptByCompletion_accept (k : CycleStep) (R : Frame) (u : State) : KeptByCompletion u (k.accept R u) := by
  cases k <;> exact ⟨rfl, rfl, rfl, rfl, rfl, rfl, rfl, rfl, rfl, rfl, rfl, rfl, rfl⟩

theorem keptByCompletion_poll (k : CycleStep) (s : State) : KeptByCompletion (deliver s) (k.complete (deliver s)) := by
  rcases poll_complete_cases k s with ⟨e, -, h⟩ | ⟨R, -, h⟩
  · rw [h]
    exact keptByCompletion_sensorFail k.opcode e _
  · rw [h]
    exact keptByCompletion_accept k R _

/-- What the completion rules of the poll frames leave of the link session besides. -/
structure KeptByPoll (u v : State) : Prop where
  linkState : v.linkState = u.linkState
  busOpen : v.busOpen = u.busOpen
  ackPending : v.ackPending = u.ackPending
  probeWait : v.probeWait = u.probeWait
  probeFails : v.probeFails = u.probeFails

theorem keptByPoll (k : CycleStep) (s : State) : KeptByPoll (deliver s) (k.complete (deliver s)) := by
  rcases poll_complete_cases k s with ⟨e, -, h⟩ | ⟨R, -, h⟩
  · rw [h]
    constructor <;> simp
  · rw [h]
    cases k <;> exact ⟨rfl, rfl, rfl, rfl, rfl⟩

theorem keptByCompletion_surfaceError (op : Byte) (u : State) : KeptByCompletion u (surfaceError op u) :=
  ⟨rfl, rfl, rfl, rfl, rfl, rfl, rfl, rfl, rfl, rfl, rfl, rfl, rfl⟩

theorem keptByCompletion_completePing (s : State) : KeptByCompletion (deliver s) (completePing (deliver s)) := by
  by_cases hconf : Claims.Confirms s.outcome
  · rw [completePing_of_confirms hconf]
    exact ⟨rfl, rfl, rfl, rfl, rfl, rfl, rfl, rfl, rfl, rfl, rfl, rfl, rfl⟩
  · rw [completePing_of_not_confirms hconf]
    exact ⟨rfl, rfl, rfl, rfl, rfl, rfl, rfl, rfl, rfl, rfl, rfl, rfl, rfl⟩

theorem keptByCompletion_completeShutdown (u : State) : KeptByCompletion u (completeShutdown u) := by
  unfold completeShutdown
  split <;> exact ⟨rfl, rfl, rfl, rfl, rfl, rfl, rfl, rfl, rfl, rfl, rfl, rfl, rfl⟩

theorem keptByCompletion (i : Instr) (s : State) : KeptByCompletion (deliver s) (completionOf i (deliver s)) := by
  cases i with
  | velocity => exact keptByCompletion_surfaceError _ _
  | sensorSetup => exact keptByCompletion_poll .setup s
  | sensorAccel => exact keptByCompletion_poll .accel s
  | sensorGyro => exact keptByCompletion_poll .gyro s
  | sensorPosition => exact keptByCompletion_poll .position s
  | sensorDeadReckoning => exact keptByCompletion_poll .deadReckoning s
  | ping => exact keptByCompletion_completePing s
  | ack => exact ⟨rfl, rfl, rfl, rfl, rfl, rfl, rfl, rfl, rfl, rfl, rfl, rfl, rfl⟩
  | shutdown => exact keptByCompletion_completeShutdown _
  | start | setVelocity | terminate | hostReservedZero | hostReservedLow | hostReservedHigh =>
    exact ⟨rfl, rfl, rfl, rfl, rfl, rfl, rfl, rfl, rfl, rfl, rfl, rfl, rfl⟩

end Sys2Proof.Machine
end

section
/-! SUPPORT. 10_state.md R50: what the invariant allows in each link state, and that every turn of every agent keeps it. -/

namespace Sys2Proof.Machine

variable {s t : State}

/-! ## The invariant, link state by link state -/

/-- What the first ten invariants of R50 and the count between two SHUTDOWN frames ask of the elements, in the link state that
`s` is in. -/
def LinkRow (s : State) : Prop :=
  match s.linkState with
  | .uninitialized =>
    s.busy = false ∧ s.busOpen = false ∧ s.cycleActive = false ∧ s.ackPending = false ∧ s.probeWait = false ∧
      s.pollDue = false ∧ s.termPending = false ∧ s.shutdownCount = 0
  | .handshaking =>
    s.busOpen = true ∧ s.cycleActive = false ∧ s.ackPending = false ∧ s.pollDue = false ∧ s.shutdownCount = 0
  | .ready => s.busOpen = true ∧ (s.cycleActive = true → s.ackPending = false) ∧ s.probeWait = false ∧ s.shutdownCount = 0
  | .shuttingDown =>
    s.busOpen = true ∧ s.cycleActive = false ∧ s.ackPending = false ∧ s.probeWait = false ∧ s.pollDue = false ∧
      s.slotValid = false ∧ s.termPending = false ∧ (s.busy = false → s.shutdownCount = 1)
  | .closed =>
    s.busy = false ∧ s.busOpen = false ∧ s.cycleActive = false ∧ s.ackPending = false ∧ s.probeWait = false ∧
      s.pollDue = false ∧ s.slotValid = false ∧ s.termPending = false ∧ (s.shutdownCount = 2 ∨ s.shutdownCount = 0)

/-- The slot only ever holds finite values (42_link_session.md R221). -/
def SlotFinite (s : State) : Prop := s.slotValid = true → isFinite s.slotLin = true ∧ isFinite s.slotAng = true

theorem Inv.linkRow (h : Inv s) : LinkRow s := by
  obtain ⟨hbusy, hbus, hcycle, hack, hwait, hpoll, hslot, hterm, hcount, hclosed, -, hboundary, -, -, -⟩ := h
  cases hlink : s.linkState <;>
    simp [hlink] at hbusy hbus hcycle hack hwait hpoll hslot hterm hcount hclosed hboundary <;>
    simp_all [LinkRow]

/-- The invariant again, with the link state known. -/
theorem Inv.of_linkRow (hrow : LinkRow s) (hflight : s.busy = true → flightOk s) (hslot : SlotFinite s)
    (htx : s.tx.wf = true) (hrx : s.rx.wf = true) : Inv s := by
  cases hlink : s.linkState <;> simp only [LinkRow, hlink] at hrow <;> constructor <;> simp_all [SlotFinite]

/-- At a boundary no frame is in flight to speak of. -/
theorem Inv.of_linkRow_idle (hrow : LinkRow s) (hbusy : s.busy = false) (hslot : SlotFinite s) (htx : s.tx.wf = true)
    (hrx : s.rx.wf = true) : Inv s :=
  .of_linkRow hrow (fun h => absurd (hbusy.symm.trans h) Bool.false_ne_true) hslot htx hrx

theorem Inv.setModelFields (h : Inv s) (ts : List Turn) (n : Nat) (o : XferOutcome) :
    Inv { s with turns := ts, draws := n, outcome := o } :=
  .of_linkRow h.linkRow h.flight h.slot_finite h.tx_wf h.rx_wf

theorem Inv.takeTurn (h : Inv s) : Inv (takeTurn s) := by
  rw [takeTurn_eq]
  exact h.setModelFields _ _ s.outcome

/-- A reset state, under every configuration. -/
theorem inv_resetWith (c : Config) (s : State) : Inv (resetWith c s) :=
  .of_linkRow_idle ⟨rfl, rfl, rfl, rfl, rfl, rfl, rfl, rfl⟩ rfl (fun h => Bool.noConfusion h) rfl rfl

/-- Settles O18: the reset state is one that a RESET leaves. -/
theorem invariantHoldsAtReset : Obligations.InvariantHoldsAtReset := by
  intro c ts
  exact ⟨inv_resetWith Config.board State.reset, inv_resetWith c { State.reset with turns := ts }⟩

/-! ## The host commands -/

/-- All that a host command can do, with the state it does it in (42_link_session.md R220 to R223). -/
inductive HostEffect (s : State) : State → Prop where
  | answered {r : ErrorCode} (hcode : r.code ∈ [0x0#4, 0x1, 0x5, 0x7, 0x8]) : HostEffect s (respond r s)
  | opened (hlink : s.linkState = .uninitialized) :
      HostEffect s (respond .ok { s with busOpen := true, probeWait := false, linkState := .handshaking })
  | queued {lin ang : Word} (hdown : s.linkState ≠ .shuttingDown) (hclosed : s.linkState ≠ .closed)
      (hlin : isFinite lin = true) (hang : isFinite ang = true) :
      HostEffect s (respond .ok { s with slotLin := lin, slotAng := ang, slotValid := true })
  | abandoned (hlink : s.linkState = .uninitialized) :
      HostEffect s (respond .ok { s with slotValid := false, linkState := .closed })
  | ending (hlink : s.linkState = .handshaking ∨ s.linkState = .ready) :
      HostEffect s (respond .ok { s with termPending := true })

theorem execStart_effect (a b : Word) (s : State) : ∃ t, execStart a b s = .next t ∧ HostEffect s t := by
  unfold execStart
  split
  · next hlink => exact ⟨_, rfl, .opened hlink⟩
  all_goals exact ⟨_, rfl, .answered (by decide)⟩

theorem encodeVelocity_cases (lin ang : Word) :
    encodeVelocity lin ang = .error .encodeOutOfRange ∨
      (isFinite lin = true ∧ isFinite ang = true ∧ encodeVelocity lin ang = .ok (velocityFrame lin ang)) := by
  cases hlin : isFinite lin with
  | false => exact .inl (encodeVelocity_of_not_finite (.inl hlin))
  | true =>
    cases hang : isFinite ang with
    | false => exact .inl (encodeVelocity_of_not_finite (.inr hang))
    | true => exact .inr ⟨rfl, rfl, encodeVelocity_of_finite hlin hang⟩

theorem execSetVelocity_effect (lin ang : Word) (s : State) : ∃ t, execSetVelocity lin ang s = .next t ∧ HostEffect s t := by
  unfold execSetVelocity
  split
  · exact ⟨_, rfl, .answered (by decide)⟩
  · next hopen =>
    rw [not_or, not_or] at hopen
    obtain ⟨hdown, hclosed, -⟩ := hopen
    rcases encodeVelocity_cases lin ang with herr | ⟨hlin, hang, hok⟩
    · rw [herr]
      exact ⟨_, rfl, .answered (by decide)⟩
    · rw [hok]
      exact ⟨_, rfl, .queued hdown hclosed hlin hang⟩

theorem execTerminate_effect (a b : Word) (s : State) : ∃ t, execTerminate a b s = .next t ∧ HostEffect s t := by
  unfold execTerminate
  split
  · next hlink => exact ⟨_, rfl, .abandoned hlink⟩
  · next hlink => exact ⟨_, rfl, .ending (.inl hlink)⟩
  · next hlink => exact ⟨_, rfl, .ending (.inr hlink)⟩
  all_goals exact ⟨_, rfl, .answered (by decide)⟩

/-- Every word on the port completes, in every state. -/
theorem exec_decodeHost_effect (w : HostWord) (s : State) : ∃ t, exec (decodeHost w) s = .next t ∧ HostEffect s t := by
  by_cases h1 : w.cmd = 0x1
  · rw [decodeHost_of_start h1]
    exact execStart_effect w.arg0 w.arg1 s
  by_cases h2 : w.cmd = 0x2
  · rw [decodeHost_of_setVelocity h2]
    exact execSetVelocity_effect w.arg0 w.arg1 s
  by_cases h3 : w.cmd = 0x3
  · rw [decodeHost_of_terminate h3]
    exact execTerminate_effect w.arg0 w.arg1 s
  · exact ⟨_, exec_decodeHost_reserved h1 h2 h3 s, .answered (by decide)⟩

theorem HostEffect.inv (h : HostEffect s t) (hs : Inv s) : Inv t := by
  have hrow := hs.linkRow
  cases h with
  | answered => exact .of_linkRow hrow hs.flight hs.slot_finite hs.tx_wf hs.rx_wf
  | opened hlink =>
    simp only [LinkRow, hlink] at hrow
    obtain ⟨hbusy, -, hcycle, hack, -, hpoll, -, hcount⟩ := hrow
    exact .of_linkRow_idle ⟨rfl, hcycle, hack, hpoll, hcount⟩ hbusy hs.slot_finite hs.tx_wf hs.rx_wf
  | queued hdown hclosed hlin hang =>
    refine .of_linkRow ?_ hs.flight (fun _ => ⟨hlin, hang⟩) hs.tx_wf hs.rx_wf
    cases hlink : s.linkState <;> simp_all [LinkRow]
  | abandoned hlink =>
    simp only [LinkRow, hlink] at hrow
    obtain ⟨hbusy, hbus, hcycle, hack, hwait, hpoll, hterm, hcount⟩ := hrow
    exact .of_linkRow_idle ⟨hbusy, hbus, hcycle, hack, hwait, hpoll, rfl, hterm, .inr hcount⟩ hbusy
      (fun h => Bool.noConfusion h) hs.tx_wf hs.rx_wf
  | ending hlink =>
    refine .of_linkRow ?_ hs.flight hs.slot_finite hs.tx_wf hs.rx_wf
    rcases hlink with hlink | hlink <;> simpa [LinkRow, hlink] using hrow

/-! ## The Sequencer's issue -/

/-- What the frame `i`, in flight, asks of the state it was issued in. -/
def InstrOk (i : Instr) (s : State) : Prop :=
  match i with
  | .ping => s.linkState = .handshaking ∧ s.probeWait = false
  | .ack => s.linkState = .ready ∧ s.ackPending = true
  | .velocity _ _ => s.linkState = .ready ∧ s.ackPending = false ∧ s.cycleActive = false
  | .sensorSetup => pollFlight .setup s
  | .sensorAccel => pollFlight .accel s
  | .sensorGyro => pollFlight .gyro s
  | .sensorPosition => pollFlight .position s
  | .sensorDeadReckoning => pollFlight .deadReckoning s
  | .shutdown => s.linkState = .shuttingDown ∧ s.shutdownCount ≠ 0
  | .start _ _ | .setVelocity _ _ | .terminate _ _ => False
  | .hostReservedZero _ _ | .hostReservedLow _ _ _ | .hostReservedHigh _ _ _ => False

theorem flightOk_iff {i : Instr} (htx : txInstr s = .ok i) : flightOk s ↔ InstrOk i s := by
  rw [flightOk, htx]
  cases i <;> rfl

theorem flightOk_error {e : DecodeError} (htx : txInstr s = .error e) : ¬ flightOk s := by
  rw [flightOk, htx]
  exact id

/-- With a frame in flight, TX is read as a frame whose completion rule fits the state. -/
theorem Inv.inFlight (h : Inv s) (hbusy : s.busy = true) : ∃ i, txInstr s = .ok i ∧ InstrOk i s := by
  have hflight := h.flight hbusy
  cases htx : txInstr s with
  | ok i => exact ⟨i, rfl, (flightOk_iff htx).1 hflight⟩
  | error e => exact absurd hflight (flightOk_error htx)

theorem instrOk_poll (k : CycleStep) (s : State) : InstrOk k.instr s ↔ pollFlight k s := by
  cases k <;> rfl

/-- What the state is like where an action is selected (42_link_session.md R231). -/
def ActionOk (s : State) : Action → Prop
  | .preempt => (s.linkState = .handshaking ∨ s.linkState = .ready) ∧ s.termPending = true
  | .shutdown => s.linkState = .shuttingDown ∧ s.shutdownCount < 2
  | .ping => s.linkState = .handshaking ∧ s.termPending = false ∧ s.probeWait = false
  | .ack => s.linkState = .ready ∧ s.termPending = false ∧ s.ackPending = true
  | .sensor k =>
    k = s.cycleStep ∧ s.linkState = .ready ∧ s.termPending = false ∧ s.ackPending = false ∧ s.cycleActive = true
  | .velocity =>
    s.linkState = .ready ∧ s.termPending = false ∧ s.ackPending = false ∧ s.cycleActive = false ∧ s.slotValid = true
  | .startCycle =>
    s.linkState = .ready ∧ s.termPending = false ∧ s.ackPending = false ∧ s.cycleActive = false ∧ s.slotValid = false ∧
      s.pollDue = true

theorem select_ok {a : Action} (h : select s = some a) : ActionOk s a := by
  have hcases := select_cases h
  cases a <;> simpa [ActionOk] using hcases

/-- The frame an action sends fits the state that the action prepared. -/
theorem Action.instrOk_prepare {a : Action} (hsel : select s = some a) : InstrOk (a.instr s) (a.prepare s) := by
  have hok := select_ok hsel
  cases a with
  | preempt => exact ⟨rfl, Fin.ne_of_val_ne one_ne_zero⟩
  | shutdown =>
    have hcount : nextShutdownCount s.shutdownCount ≠ 0 := by
      unfold nextShutdownCount
      split <;> decide
    exact ⟨hok.1, hcount⟩
  | ping =>
    obtain ⟨hlink, -, hwait⟩ := hok
    exact ⟨hlink, hwait⟩
  | ack =>
    obtain ⟨hlink, -, hack⟩ := hok
    exact ⟨hlink, hack⟩
  | sensor k =>
    obtain ⟨rfl, hlink, -, -, hactive⟩ := hok
    exact (instrOk_poll _ s).2 ⟨hlink, hactive, rfl⟩
  | velocity =>
    obtain ⟨hlink, -, hack, hactive, -⟩ := hok
    exact ⟨hlink, hack, hactive⟩
  | startCycle => exact ⟨hok.1, rfl, rfl⟩

/-- Preparing and sending a frame leads from the row of one link state to the row of another or of the same. -/
theorem Action.linkRow_prepare {a : Action} (hs : Inv s) (hsel : select s = some a) (F : Frame) :
    LinkRow (sendFrame F (a.prepare s)) := by
  have hrow := hs.linkRow
  have hok := select_ok hsel
  cases a with
  | preempt =>
    have hbus : (Machine.preempt s).busOpen = true := by
      rw [preempt_busOpen, hs.bus_states]
      exact hok.1.imp_right .inl
    exact ⟨hbus, preempt_cycleActive s, rfl, rfl, rfl, rfl, rfl, fun h => Bool.noConfusion h⟩
  | shutdown =>
    obtain ⟨hlink, -⟩ := hok
    simp only [LinkRow, hlink] at hrow
    simp [LinkRow, prepare, hlink, hrow]
  | ping =>
    obtain ⟨hlink, -⟩ := hok
    simpa [LinkRow, prepare, hlink] using hrow
  | ack =>
    obtain ⟨hlink, -⟩ := hok
    simpa [LinkRow, prepare, hlink] using hrow
  | sensor k =>
    obtain ⟨-, hlink, -⟩ := hok
    simpa [LinkRow, prepare, hlink] using hrow
  | velocity =>
    obtain ⟨hlink, -⟩ := hok
    simpa [LinkRow, prepare, hlink] using hrow
  | startCycle =>
    obtain ⟨hlink, -, hack, -⟩ := hok
    simp only [LinkRow, hlink] at hrow
    obtain ⟨hbus, -, hwait, hcount⟩ := hrow
    simp [LinkRow, prepare, hlink, hbus, hack, hwait, hcount]

theorem instrOk_sendFrame {i : Instr} (F : Frame) (u : State) : InstrOk i (sendFrame F u) ↔ InstrOk i u := by
  cases i <;> rfl

theorem Action.slotFinite_prepare (a : Action) (hs : SlotFinite s) : SlotFinite (a.prepare s) := by
  cases a with
  | preempt | velocity => exact fun h => Bool.noConfusion h
  | shutdown | ping | ack | sensor | startCycle => exact hs

theorem Action.prepare_rx (a : Action) (s : State) : (a.prepare s).rx = s.rx := by
  cases a with
  | preempt => exact Machine.preempt_rx s
  | shutdown | ping | ack | sensor | velocity | startCycle => rfl

theorem Inv.issue {a : Action} (hs : Inv s) (hsel : select s = some a) : Inv (sendFrame (a.frame s) (a.prepare s)) := by
  have hflight : flightOk (sendFrame (a.frame s) (a.prepare s)) :=
    (flightOk_iff (txInstr_issued a s)).2 ((instrOk_sendFrame _ _).2 (Action.instrOk_prepare hsel))
  exact .of_linkRow (Action.linkRow_prepare hs hsel _) (fun _ => hflight) (a.slotFinite_prepare hs.slot_finite)
    (Memory.wf_ofFrame _) ((congrArg Memory.wf (a.prepare_rx s)).trans hs.rx_wf)

/-! ## The completion -/

theorem LinkRow.poll (k : CycleStep) (hrow : LinkRow s) (hflight : pollFlight k s) : LinkRow (k.complete (deliver s)) := by
  obtain ⟨hlink, hactive, -⟩ := hflight
  simp only [LinkRow, hlink] at hrow
  obtain ⟨hbus, hack, hwait, hcount⟩ := hrow
  have hkept := keptByPoll k s
  have hcount' := (keptByCompletion_poll k s).shutdownCount
  simp [LinkRow, hkept.linkState, hkept.busOpen, hkept.ackPending, hkept.probeWait, hcount', hlink, hbus, hack hactive, hwait,
    hcount]

/-- A confirmed probe enters the row of Ready; any other stays in Handshaking. -/
theorem LinkRow.ping (hrow : LinkRow s) (hflight : InstrOk .ping s) : LinkRow (completePing (deliver s)) := by
  obtain ⟨hlink, hwait⟩ := hflight
  simp only [LinkRow, hlink] at hrow
  obtain ⟨hbus, hcycle, hack, hpoll, hcount⟩ := hrow
  by_cases hconf : Claims.Confirms s.outcome
  · rw [completePing_of_confirms hconf]
    exact ⟨hbus, fun h => absurd (hcycle.symm.trans h) Bool.false_ne_true, hwait, hcount⟩
  · rw [completePing_of_not_confirms hconf]
    simp [LinkRow, completePing.probeFailed, hlink, hbus, hcycle, hack, hpoll, hcount]

theorem eq_one_of_ne {n : Fin 3} (h0 : n ≠ 0) (h2 : n ≠ 2) : n = 1 := by
  omega

/-- The first SHUTDOWN frame leaves a count of 1 at the boundary; the second enters the row of Closed. -/
theorem LinkRow.shutdown (hrow : LinkRow s) (hflight : InstrOk .shutdown s) : LinkRow (completeShutdown (deliver s)) := by
  obtain ⟨hlink, hcount⟩ := hflight
  simp only [LinkRow, hlink] at hrow
  obtain ⟨hbus, hcycle, hack, hwait, hpoll, hslot, hterm, -⟩ := hrow
  by_cases htwo : s.shutdownCount = 2
  · rw [completeShutdown_of_two (s := deliver s) htwo]
    exact ⟨rfl, rfl, hcycle, hack, hwait, hpoll, hslot, hterm, .inl htwo⟩
  · rw [completeShutdown_of_not_two (s := deliver s) htwo]
    simp [LinkRow, hlink, hbus, hcycle, hack, hwait, hpoll, hslot, hterm, eq_one_of_ne hcount htwo]

theorem LinkRow.complete {i : Instr} (hrow : LinkRow s) (hflight : InstrOk i s) : LinkRow (completionOf i (deliver s)) := by
  cases i with
  | velocity =>
    obtain ⟨hlink, -⟩ := hflight
    simpa [LinkRow, completionOf, hlink] using hrow
  | sensorSetup => exact hrow.poll .setup hflight
  | sensorAccel => exact hrow.poll .accel hflight
  | sensorGyro => exact hrow.poll .gyro hflight
  | sensorPosition => exact hrow.poll .position hflight
  | sensorDeadReckoning => exact hrow.poll .deadReckoning hflight
  | ping => exact hrow.ping hflight
  | ack =>
    obtain ⟨hlink, -⟩ := hflight
    simp only [LinkRow, hlink] at hrow
    simp [LinkRow, completionOf, completeAck, hlink, hrow]
  | shutdown => exact hrow.shutdown hflight
  | start | setVelocity | terminate | hostReservedZero | hostReservedLow | hostReservedHigh => exact hflight.elim

theorem Inv.complete {i : Instr} (hs : Inv s) (hflight : InstrOk i s) : Inv (completionOf i (deliver s)) := by
  have hkept := keptByCompletion i s
  refine .of_linkRow_idle (hs.linkRow.complete hflight) hkept.busy ?slot ?tx ?rx
  case slot =>
    rw [SlotFinite, hkept.slotValid, hkept.slotLin, hkept.slotAng]
    exact hs.slot_finite
  case tx =>
    rw [hkept.tx]
    exact hs.tx_wf
  case rx =>
    rw [hkept.rx]
    exact Memory.wf_ofFrame _

/-! ## The timers -/

theorem Inv.not_busy_of_probeWait (hs : Inv s) (hwait : s.probeWait = true) : s.busy = false := by
  rw [Bool.eq_false_iff]
  intro hbusy
  obtain ⟨i, -, hflight⟩ := hs.inFlight hbusy
  have hlink := hs.wait_states hwait
  cases i <;> simp_all [InstrOk, pollFlight]

theorem Inv.probeDelay (hs : Inv s) : Inv (probeDelayFires s) := by
  cases hwait : s.probeWait with
  | false => rwa [probeDelayFires_of_not_wait hwait]
  | true =>
    have hrow := hs.linkRow
    have hlink := hs.wait_states hwait
    refine .of_linkRow_idle ?_ (hs.not_busy_of_probeWait hwait) hs.slot_finite hs.tx_wf hs.rx_wf
    simpa [LinkRow, hlink] using hrow

theorem Inv.pollTick (hs : Inv s) : Inv (pollTimerFires s) := by
  by_cases hlink : s.linkState = .ready
  · have hrow := hs.linkRow
    rw [pollTimerFires_of_ready hlink]
    refine .of_linkRow ?_ hs.flight hs.slot_finite hs.tx_wf hs.rx_wf
    simpa [LinkRow, hlink] using hrow
  · rwa [pollTimerFires_of_not_ready hlink]

/-! ## The turns -/

theorem Inv.setOutcome (hs : Inv s) (o : XferOutcome) : Inv { s with outcome := o } := hs.setModelFields _ _ o

theorem runTurn_inv {u : Turn} (hs : Inv s) (h : runTurn u s = .next t) : Inv t := by
  rcases runTurn_next h with ⟨-, ⟨-, rfl⟩ | ⟨i, hframe, hi⟩⟩ | ⟨w, -, hw⟩ | ⟨o, -, ⟨-, rfl⟩ | ⟨i, hbusy, htx, hi⟩⟩ |
    ⟨-, rfl⟩ | ⟨-, rfl⟩ | ⟨p, c, -, -, rfl⟩
  · exact hs
  · obtain ⟨a, hsel, -, rfl⟩ := exec_issue_next hframe hi
    exact hs.issue hsel
  · obtain ⟨v, hv, heffect⟩ := exec_decodeHost_effect w s
    cases hv.symm.trans hw
    exact heffect.inv hs
  · exact hs
  · have ho := hs.setOutcome o
    cases (exec_inFlight (s := { s with outcome := o }) hbusy htx).symm.trans hi
    obtain ⟨j, hj, hflight⟩ := ho.inFlight hbusy
    obtain rfl : i = j := Except.ok.inj (htx.symm.trans hj)
    exact ho.complete hflight
  · exact hs.probeDelay
  · exact hs.pollTick
  · exact inv_resetWith c _

/-- Settles O19, turn by turn. -/
theorem stepKeepsTheInvariant : Obligations.StepKeepsTheInvariant := by
  intro s t hs hstep
  exact runTurn_inv hs.takeTurn hstep

/-! ## No turn stops -/

theorem runReset_cases (p : Params) (s : State) :
    (∃ t, runReset p s = .next t) ∨ (p.wf = false ∧ runReset p s = .refused .illFormedConfig) := by
  cases hwf : p.wf with
  | true => exact .inl ⟨_, runReset_of_wf hwf s⟩
  | false => exact .inr ⟨rfl, runReset_of_not_wf hwf s⟩

theorem SlotFinite.issue_goes_on (hs : SlotFinite s) : ∃ t, runTurn .issue s = .next t := by
  cases hframe : selectedFrame s with
  | none => exact ⟨s, runTurn_issue_of_none hframe⟩
  | some i =>
    obtain ⟨hbusy, hbus, a, hsel, rfl⟩ := selectedFrame_eq_some.1 hframe
    have hslot : a = .velocity → isFinite s.slotLin = true ∧ isFinite s.slotAng = true := by
      rintro rfl
      obtain ⟨-, -, -, -, hvalid⟩ := select_ok hsel
      exact hs hvalid
    exact ⟨_, (runTurn_issue_of_selected hframe).trans (exec_issue hbusy hbus hsel hslot)⟩

theorem Inv.complete_goes_on (hs : Inv s) (o : XferOutcome) : ∃ t, runTurn (.complete o) s = .next t := by
  cases hbusy : s.busy with
  | false => exact ⟨s, runTurn_complete_of_idle hbusy o⟩
  | true =>
    obtain ⟨i, htx, -⟩ := hs.inFlight hbusy
    exact ⟨_, (runTurn_complete_of_inFlight hbusy htx o).trans (exec_inFlight (s := { s with outcome := o }) hbusy htx)⟩

/-- Settles O20: every turn but a RESET goes on from a state that meets the invariant. -/
theorem noStepStopsButAnIllFormedReset : Obligations.NoStepStopsButAnIllFormedReset := by
  intro s hs
  have hs' := hs.takeTurn
  rw [step]
  cases hturn : nextTurn s with
  | issue => exact .inl (SlotFinite.issue_goes_on hs'.slot_finite)
  | host w =>
    obtain ⟨t, ht, -⟩ := exec_decodeHost_effect w (takeTurn s)
    exact .inl ⟨t, ht⟩
  | complete o => exact .inl (hs'.complete_goes_on o)
  | probeDelay => exact .inl ⟨_, rfl⟩
  | pollTick => exact .inl ⟨_, rfl⟩
  | reset p => exact (runReset_cases p (takeTurn s)).imp_right fun h => ⟨p, rfl, h⟩

end Sys2Proof.Machine
end

section
/-! SUPPORT. 20_memory.md R81, R84 and 30_encoding.md R112: what a host command writes, and the two histories, which every turn
only appends to. -/

namespace Sys2Proof.Machine

variable {s t : State}

/-- The effect of a host command is the answer and at most the elements listed. -/
theorem HostEffect.writes (h : HostEffect s t) :
    ∃ r, t.responses = s.responses ++ [r] ∧ r.code ∈ [0x0#4, 0x1, 0x5, 0x7, 0x8] ∧
      t = { s with
        responses := t.responses
        linkState := t.linkState
        busOpen := t.busOpen
        probeWait := t.probeWait
        termPending := t.termPending
        slotValid := t.slotValid
        slotLin := t.slotLin
        slotAng := t.slotAng } := by
  cases h with
  | answered hcode => exact ⟨_, rfl, hcode, rfl⟩
  | opened | queued | abandoned | ending => exact ⟨.ok, rfl, by decide, rfl⟩

/-- Settles O26: every word has an effect, and leaves the exchange as it is. -/
theorem hostCommandsTouchOnlyTheirElements : Obligations.HostCommandsTouchOnlyTheirElements := by
  refine ⟨rfl, fun w s => ?_⟩
  obtain ⟨t, hexec, heffect⟩ := exec_decodeHost_effect w s
  obtain ⟨r, hresponses, hcode, hwrites⟩ := heffect.writes
  obtain ⟨hbusy, htx, hrx⟩ := exec_sameExchange_of_not_frame (isFrame_decodeHost w) hexec
  exact ⟨t, r, hexec, hresponses, hcode, hwrites, fun a => by rw [htx], fun a => by rw [hrx], hbusy⟩

/-! ## The histories -/

theorem CycleChange.events_grow {u : Turn} (h : CycleChange s t u) : s.events <+: t.events := by
  cases h with
  | kept new _ hview => exact ⟨new, (congrArg CycleView.events hview).symm⟩
  | started hview | stored _ _ _ _ _ hview =>
    have hevents : t.events = s.events := congrArg CycleView.events hview
    exact hevents ▸ ⟨[], List.append_nil _⟩
  | published _ _ _ hview | lost _ _ _ hview => exact ⟨_, (congrArg CycleView.events hview).symm⟩
  | reset _ hevents => exact hevents ▸ ⟨[], List.append_nil _⟩

theorem Action.prepare_responses (a : Action) (s : State) : (a.prepare s).responses = s.responses := by
  cases a with
  | preempt => exact Machine.preempt_responses s
  | shutdown | ping | ack | sensor | velocity | startCycle => rfl

/-- Only a host command responds. -/
theorem runTurn_responses {u : Turn} (h : runTurn u s = .next t) :
    t.responses = s.responses ∨ ∃ w r, u = .host w ∧ t.responses = s.responses ++ [r] := by
  rcases runTurn_next h with ⟨-, ⟨-, rfl⟩ | ⟨i, hframe, hi⟩⟩ | ⟨w, rfl, hw⟩ | ⟨o, -, ⟨-, rfl⟩ | ⟨i, hbusy, htx, hi⟩⟩ |
    ⟨-, rfl⟩ | ⟨-, rfl⟩ | ⟨p, c, -, -, rfl⟩
  · exact .inl rfl
  · obtain ⟨a, -, -, rfl⟩ := exec_issue_next hframe hi
    exact .inl (a.prepare_responses s)
  · obtain ⟨v, hv, heffect⟩ := exec_decodeHost_effect w s
    cases hv.symm.trans hw
    obtain ⟨r, hr, -⟩ := heffect.writes
    exact .inr ⟨w, r, rfl, hr⟩
  · exact .inl rfl
  · cases (exec_inFlight (s := { s with outcome := o }) hbusy htx).symm.trans hi
    exact .inl (keptByCompletion i { s with outcome := o }).responses
  · exact .inl rfl
  · exact .inl rfl
  · exact .inl rfl

theorem runTurn_responses_grow {u : Turn} (h : runTurn u s = .next t) : s.responses <+: t.responses := by
  rcases runTurn_responses h with hsame | ⟨w, r, -, hmore⟩
  · exact hsame ▸ ⟨[], List.append_nil _⟩
  · exact ⟨[r], hmore.symm⟩

/-- Settles O21: the events by what a turn does to the poll cycle, the responses turn by turn; the kinds are evaluated. -/
theorem historiesOnlyGrow : Obligations.HistoriesOnlyGrow := by
  refine ⟨fun s t hstep => ⟨(step_cycleChange hstep).events_grow, ?_⟩, fun _ _ _ _ => rfl⟩
  rw [← takeTurn_responses s]
  exact runTurn_responses_grow hstep

end Sys2Proof.Machine
end

section
/-! SUPPORT. 42_link_session.md R230 to R233, R236 to R244 and R301: the Sequencer's turn, and the elements that an issue
leaves as they are. -/

namespace Sys2Proof.Machine

variable {s t : State}

/-! ## What an action's preparation leaves -/

/-- What no issue writes, but for the exchange itself. -/
structure KeptByIssue (s u : State) : Prop where
  cfg : u.cfg = s.cfg
  busOpen : u.busOpen = s.busOpen
  slotLin : u.slotLin = s.slotLin
  slotAng : u.slotAng = s.slotAng
  rx : u.rx = s.rx
  accAccel : u.accAccel = s.accAccel
  accGyro : u.accGyro = s.accGyro
  accPose : u.accPose = s.accPose
  accOrient : u.accOrient = s.accOrient
  accDr : u.accDr = s.accDr
  probeFails : u.probeFails = s.probeFails
  responses : u.responses = s.responses
  outcome : u.outcome = s.outcome
  turns : u.turns = s.turns
  draws : u.draws = s.draws

theorem Action.keptByIssue (a : Action) (s : State) : KeptByIssue s (a.prepare s) := by
  cases a with
  | preempt => constructor <;> simp [prepare]
  | shutdown | ping | ack | sensor | velocity | startCycle =>
    exact ⟨rfl, rfl, rfl, rfl, rfl, rfl, rfl, rfl, rfl, rfl, rfl, rfl, rfl, rfl, rfl⟩

/-- What only SHUTDOWN's issue writes (R232, R301). -/
structure KeptUnlessShutdown (s u : State) : Prop where
  linkState : u.linkState = s.linkState
  ackPending : u.ackPending = s.ackPending
  probeWait : u.probeWait = s.probeWait
  termPending : u.termPending = s.termPending
  shutdownCount : u.shutdownCount = s.shutdownCount
  seq : u.seq = s.seq
  events : u.events = s.events

theorem Action.keptUnlessShutdown {a : Action} (hi : a.instr s ≠ .shutdown) : KeptUnlessShutdown s (a.prepare s) := by
  cases a with
  | preempt | shutdown => exact absurd rfl hi
  | ping | ack | sensor | velocity | startCycle => exact ⟨rfl, rfl, rfl, rfl, rfl, rfl, rfl⟩

/-- The poll cycle is written by SHUTDOWN's issue and by SENSOR_SETUP's (R232, R233). -/
theorem Action.prepare_cycle {a : Action} (hi : a.instr s ≠ .shutdown) (hsetup : a.instr s ≠ .sensorSetup) :
    (a.prepare s).pollDue = s.pollDue ∧ (a.prepare s).cycleActive = s.cycleActive ∧ (a.prepare s).cycleStep = s.cycleStep := by
  cases a with
  | preempt | shutdown => exact absurd rfl hi
  | startCycle => exact absurd rfl hsetup
  | ping | ack | sensor | velocity => exact ⟨rfl, rfl, rfl⟩

/-- The slot is emptied by SHUTDOWN's issue and by VELOCITY's (R232, R239). -/
theorem Action.prepare_slotValid {a : Action} (hi : a.instr s ≠ .shutdown) (hvel : ∀ l w, a.instr s ≠ .velocity l w) :
    (a.prepare s).slotValid = s.slotValid := by
  cases a with
  | preempt | shutdown => exact absurd rfl hi
  | velocity => exact absurd rfl (hvel _ _)
  | ping | ack | sensor | startCycle => rfl

/-! ## The issue -/

/-- Where a frame's meaning answers, it is selected at a boundary, or in flight. -/
theorem exec_frame_next {i : Instr} (hi : Claims.isFrame i = true) (h : exec i s = .next t) :
    (s.busy = false ∧ selectedFrame s = some i) ∨ (s.busy = true ∧ txInstr s = .ok i) := by
  have hnext : ∀ {issue complete}, exchange i issue complete s = .next t →
      (s.busy = false ∧ selectedFrame s = some i) ∨ (s.busy = true ∧ txInstr s = .ok i) := fun hex =>
    (exchange_next hex).imp (fun ⟨hbusy, hsel, _⟩ => ⟨hbusy, hsel⟩) fun ⟨hbusy, htx, _⟩ => ⟨hbusy, htx⟩
  cases i with
  | velocity | sensorSetup | sensorAccel | sensorGyro | sensorPosition | sensorDeadReckoning | shutdown => exact hnext h
  | ping =>
    rw [exec, execPing] at h
    exact hnext h
  | ack =>
    rw [exec, execAck] at h
    exact hnext h
  | start | setVelocity | terminate | hostReservedZero | hostReservedLow | hostReservedHigh => exact Bool.noConfusion hi

/-- Settles O40: an issue is its action's preparation and then the sending of the action's frame. -/
theorem issueWritesTxAndItsElements : Obligations.IssueWritesTxAndItsElements := by
  intro i s t hi hbusy h
  rcases exec_frame_next hi h with ⟨-, hframe⟩ | ⟨hflight, -⟩
  · obtain ⟨a, -, rfl, rfl⟩ := exec_issue_next hframe h
    have hkept := a.keptByIssue s
    refine ⟨⟨a.frame s, encode_instr a s, Memory.read_ofFrame _⟩, rfl, fun b => congrArg (Memory.read · b) hkept.rx, hkept.cfg,
      hkept.busOpen, hkept.slotLin, hkept.slotAng,
      fun _ => ⟨hkept.accAccel, hkept.accGyro, hkept.accPose, hkept.accOrient, hkept.accDr⟩, hkept.probeFails, hkept.responses,
      hkept.outcome, hkept.turns, hkept.draws, fun hdown => ?_⟩
    have hrest : KeptUnlessShutdown s (a.prepare s) := Action.keptUnlessShutdown hdown
    exact ⟨hrest.linkState, hrest.ackPending, hrest.probeWait, hrest.termPending, hrest.shutdownCount, hrest.seq, hrest.events,
      Action.prepare_cycle hdown, Action.prepare_slotValid hdown⟩
  · exact absurd (hbusy.symm.trans hflight) Bool.false_ne_true

/-! ## The Sequencer's turn -/

theorem opcode_of_frame (a : Action) (s : State) : (a.frame s).get 0 ∈ Claims.opcodes s.cfg := by
  have hsent : decodeFrame s.cfg (a.frame s) = .ok (a.instr s) := by
    rw [← txInstr_sendFrame a s, txInstr_sent (sendFrame_tx _ _), sendFrame_cfg]
  exact opcode_of_decodeFrame hsent

@[simp] theorem select_takeTurn (s : State) : select (takeTurn s) = select s := by
  rw [takeTurn_eq]
  rfl

@[simp] theorem selectedFrame_takeTurn (s : State) : selectedFrame (takeTurn s) = selectedFrame s := by
  rw [takeTurn_eq]
  rfl

theorem SlotFinite.takeTurn (h : SlotFinite s) : SlotFinite (takeTurn s) := by
  rw [takeTurn_eq]
  exact h

/-- Settles O29: the turn passes where no frame is selected, and runs the issue of the selected action where one is. -/
theorem issueStepSendsOneListedFrame : Obligations.IssueStepSendsOneListedFrame := by
  intro s hturn hslot
  rw [step, hturn]
  refine ⟨fun hnone => ⟨takeTurn s, runTurn_issue_of_none ?_, by rw [takeTurn_eq]⟩, fun hbusy hbus hsome => ?_⟩
  · rw [selectedFrame_takeTurn]
    exact selectedFrame_eq_none.2 hnone
  · obtain ⟨t, ht⟩ := SlotFinite.issue_goes_on (SlotFinite.takeTurn hslot)
    obtain ⟨a, hsel⟩ := Option.ne_none_iff_exists'.1 hsome
    have hframe : selectedFrame (takeTurn s) = some (a.instr s) := by
      rw [selectedFrame_takeTurn]
      exact selectedFrame_of_select hbusy hbus hsel
    obtain ⟨b, -, -, rfl⟩ := exec_issue_next hframe ((runTurn_issue_of_selected hframe).symm.trans ht)
    refine ⟨_, ht, rfl, ?_⟩
    rw [sendFrame_tx, Memory.read_ofFrame, ← takeTurn_cfg s]
    exact opcode_of_frame b _

end Sys2Proof.Machine
end

section
/-! SUPPORT. 41_transport.md R186, 42_link_session.md R236 to R244 and 44_shutdown.md R302: the completion ends the exchange,
and what each frame's completion rule leaves as it is. -/

namespace Sys2Proof.Machine

variable {s t : State}

/-- The nine frames, the five poll frames by their cycle step. -/
theorem frame_cases {i : Instr} (hi : Claims.isFrame i = true) :
    (∃ lin ang, i = .velocity lin ang) ∨ (∃ k : CycleStep, i = k.instr) ∨ i = .ping ∨ i = .ack ∨ i = .shutdown := by
  cases i with
  | velocity lin ang => exact .inl ⟨lin, ang, rfl⟩
  | sensorSetup => exact .inr (.inl ⟨.setup, rfl⟩)
  | sensorAccel => exact .inr (.inl ⟨.accel, rfl⟩)
  | sensorGyro => exact .inr (.inl ⟨.gyro, rfl⟩)
  | sensorPosition => exact .inr (.inl ⟨.position, rfl⟩)
  | sensorDeadReckoning => exact .inr (.inl ⟨.deadReckoning, rfl⟩)
  | ping => exact .inr (.inr (.inl rfl))
  | ack => exact .inr (.inr (.inr (.inl rfl)))
  | shutdown => exact .inr (.inr (.inr (.inr rfl)))
  | start | setVelocity | terminate | hostReservedZero | hostReservedLow | hostReservedHigh => exact Bool.noConfusion hi

/-- What the completion rule of the frame `i` leaves besides, frame by frame. -/
structure KeptByRule (i : Instr) (s t : State) : Prop where
  probe : i ≠ .ping → t.probeWait = s.probeWait ∧ t.probeFails = s.probeFails
  ack : i ≠ .ping → i ≠ .ack → t.ackPending = s.ackPending
  link : i ≠ .ping → i ≠ .shutdown → t.linkState = s.linkState
  bus : i ≠ .shutdown → t.busOpen = s.busOpen
  accumulator : (∃ R, s.outcome = .ok R) ∨ (∀ k, i ≠ CycleStep.instr k) →
    (i ≠ .sensorAccel → t.accAccel = s.accAccel) ∧
    (i ≠ .sensorGyro → t.accGyro = s.accGyro) ∧
    (i ≠ .sensorPosition → t.accPose = s.accPose ∧ t.accOrient = s.accOrient) ∧
    (i ≠ .sensorDeadReckoning → t.accDr = s.accDr)
  cycle : (∀ k, i ≠ CycleStep.instr k) → t.cycleActive = s.cycleActive ∧ t.cycleStep = s.cycleStep ∧ t.seq = s.seq

theorem keptByRule_velocity (lin ang : Word) (s : State) :
    KeptByRule (.velocity lin ang) s (surfaceError Config.opVelocity (deliver s)) :=
  ⟨fun _ => ⟨rfl, rfl⟩, fun _ _ => rfl, fun _ _ => rfl, fun _ => rfl,
    fun _ => ⟨fun _ => rfl, fun _ => rfl, fun _ => ⟨rfl, rfl⟩, fun _ => rfl⟩, fun _ => ⟨rfl, rfl, rfl⟩⟩

theorem keptByRule_ack (s : State) : KeptByRule .ack s (completeAck (deliver s)) :=
  ⟨fun _ => ⟨rfl, rfl⟩, fun _ h => absurd rfl h, fun _ _ => rfl, fun _ => rfl,
    fun _ => ⟨fun _ => rfl, fun _ => rfl, fun _ => ⟨rfl, rfl⟩, fun _ => rfl⟩, fun _ => ⟨rfl, rfl, rfl⟩⟩

theorem keptByRule_ping (s : State) : KeptByRule .ping s (completePing (deliver s)) := by
  by_cases hconf : Claims.Confirms s.outcome
  case' pos => rw [completePing_of_confirms hconf]
  case' neg => rw [completePing_of_not_confirms hconf]
  all_goals exact ⟨fun h => absurd rfl h, fun h => absurd rfl h, fun h => absurd rfl h, fun _ => rfl,
    fun _ => ⟨fun _ => rfl, fun _ => rfl, fun _ => ⟨rfl, rfl⟩, fun _ => rfl⟩, fun _ => ⟨rfl, rfl, rfl⟩⟩

theorem keptByRule_shutdown (s : State) : KeptByRule .shutdown s (completeShutdown (deliver s)) := by
  unfold completeShutdown
  split
  all_goals exact ⟨fun _ => ⟨rfl, rfl⟩, fun _ _ => rfl, fun _ h => absurd rfl h, fun h => absurd rfl h,
    fun _ => ⟨fun _ => rfl, fun _ => rfl, fun _ => ⟨rfl, rfl⟩, fun _ => rfl⟩, fun _ => ⟨rfl, rfl, rfl⟩⟩

/-- An ok reply to a poll frame is stored in its own element of the accumulator. -/
theorem accept_accumulator (k : CycleStep) (R : Frame) (u : State) :
    (k.instr ≠ .sensorAccel → (k.accept R u).accAccel = u.accAccel) ∧
    (k.instr ≠ .sensorGyro → (k.accept R u).accGyro = u.accGyro) ∧
    (k.instr ≠ .sensorPosition → (k.accept R u).accPose = u.accPose ∧ (k.accept R u).accOrient = u.accOrient) ∧
    (k.instr ≠ .sensorDeadReckoning → (k.accept R u).accDr = u.accDr) := by
  cases k with
  | setup => exact ⟨fun _ => rfl, fun _ => rfl, fun _ => ⟨rfl, rfl⟩, fun _ => rfl⟩
  | accel => exact ⟨fun h => absurd rfl h, fun _ => rfl, fun _ => ⟨rfl, rfl⟩, fun _ => rfl⟩
  | gyro => exact ⟨fun _ => rfl, fun h => absurd rfl h, fun _ => ⟨rfl, rfl⟩, fun _ => rfl⟩
  | position => exact ⟨fun _ => rfl, fun _ => rfl, fun h => absurd rfl h, fun _ => rfl⟩
  | deadReckoning => exact ⟨fun _ => rfl, fun _ => rfl, fun _ => ⟨rfl, rfl⟩, fun h => absurd rfl h⟩

theorem keptByRule_poll (k : CycleStep) (s : State) : KeptByRule k.instr s (k.complete (deliver s)) := by
  have hkept := keptByPoll k s
  refine ⟨fun _ => ⟨hkept.probeWait, hkept.probeFails⟩, fun _ _ => hkept.ackPending, fun _ _ => hkept.linkState,
    fun _ => hkept.busOpen, ?_, fun h => absurd rfl (h k)⟩
  rintro (⟨R, hR⟩ | hno)
  · rw [complete_of_ok (s := deliver s) k hR (deliver_rx_of_ok hR)]
    exact accept_accumulator k R (deliver s)
  · exact absurd rfl (hno k)

theorem keptByRule {i : Instr} (hi : Claims.isFrame i = true) (s : State) : KeptByRule i s (completionOf i (deliver s)) := by
  rcases frame_cases hi with ⟨lin, ang, rfl⟩ | ⟨k, rfl⟩ | rfl | rfl | rfl
  · exact keptByRule_velocity lin ang s
  · rw [completionOf_poll]
    exact keptByRule_poll k s
  · exact keptByRule_ping s
  · exact keptByRule_ack s
  · exact keptByRule_shutdown s

/-- RX holds an ok reply after the completion. -/
theorem completion_rx {R : Frame} (hR : s.outcome = .ok R) (i : Instr) (a : Nat) :
    (completionOf i (deliver s)).rx.read a = R.get a := by
  rw [(keptByCompletion i s).rx, deliver_rx_of_ok hR, Memory.read_ofFrame]

/-- Settles O41: the meaning of the frame in flight is its completion rule after the delivery. -/
theorem completionWritesRxAndItsElements : Obligations.CompletionWritesRxAndItsElements := by
  intro i s t hi hbusy h
  rcases exec_frame_next hi h with ⟨hidle, -⟩ | ⟨-, htx⟩
  · exact absurd (hidle.symm.trans hbusy) Bool.false_ne_true
  · cases (exec_inFlight hbusy htx).symm.trans h
    have hkept := keptByCompletion i s
    have hrule := keptByRule hi s
    exact ⟨hkept.busy, fun a => congrArg (Memory.read · a) hkept.tx, fun R hR => completion_rx hR i, hkept.cfg, hkept.termPending,
      hkept.shutdownCount, hkept.slotValid, hkept.slotLin, hkept.slotAng, hkept.pollDue, hkept.responses, hkept.outcome,
      hkept.turns, hrule.probe, hrule.ack, hrule.link, hrule.bus, hrule.accumulator, hrule.cycle⟩

/-- Settles O46: the invariant says that the frame in flight is one of the nine, whose completion always goes on. -/
theorem everyCompletionEndsTheExchange : Obligations.EveryCompletionEndsTheExchange := by
  intro s o hs hbusy hturn
  obtain ⟨i, htx, -⟩ := hs.takeTurn.inFlight ((takeTurn_busy s).trans hbusy)
  have hrun := runTurn_complete_of_inFlight ((takeTurn_busy s).trans hbusy) htx o
  refine ⟨_, (congrArg (runTurn · _) hturn).trans (hrun.trans (exec_inFlight (s := { takeTurn s with outcome := o }) ?_ htx)),
    (keptByCompletion i _).busy, fun R hR => completion_rx hR i⟩
  exact (takeTurn_busy s).trans hbusy

end Sys2Proof.Machine
end

section
/-! SUPPORT. 20_memory.md R80, 41_transport.md R181, 30_encoding.md section 7: an exchange starts in the Sequencer's turn alone,
and a placed frame is the next one to start. -/

namespace Sys2Proof.Machine

variable {s t : State}

/-- A turn that is no reset starts an exchange, on an open bus, or writes no byte of TX and puts nothing in flight. -/
theorem runTurn_exchange_cases {u : Turn} (hreset : Claims.notReset u) (h : runTurn u s = .next t) :
    (u = .issue ∧ s.busy = false ∧ s.busOpen = true ∧ t.busy = true) ∨ (t.tx = s.tx ∧ (s.busy = false → t.busy = false)) := by
  have hsame : SameExchange s t → t.tx = s.tx ∧ (s.busy = false → t.busy = false) := fun hex =>
    ⟨hex.tx, fun hbusy => hex.busy.trans hbusy⟩
  rcases runTurn_next h with ⟨rfl, ⟨-, rfl⟩ | ⟨i, hframe, hi⟩⟩ | ⟨w, -, hw⟩ | ⟨o, -, ⟨-, rfl⟩ | ⟨i, hbusy, htx, hi⟩⟩ |
    ⟨-, rfl⟩ | ⟨-, rfl⟩ | ⟨p, -, rfl, -⟩
  · exact .inr (hsame (.refl _))
  · obtain ⟨hbusy, hbus, -⟩ := selectedFrame_eq_some.1 hframe
    obtain ⟨a, -, -, rfl⟩ := exec_issue_next hframe hi
    exact .inl ⟨rfl, hbusy, hbus, rfl⟩
  · exact .inr (hsame (exec_sameExchange_of_not_frame (isFrame_decodeHost w) hw))
  · exact .inr (hsame (.refl _))
  · cases (exec_inFlight (s := { s with outcome := o }) hbusy htx).symm.trans hi
    have hkept := keptByCompletion i { s with outcome := o }
    exact .inr ⟨hkept.tx, fun _ => hkept.busy⟩
  · exact .inr (hsame (sameExchange_probeDelayFires s))
  · exact .inr (hsame (sameExchange_pollTimerFires s))
  · exact absurd rfl (hreset p)

/-- Settles O45: every other turn leaves TX as it is and puts nothing in flight. -/
theorem exchangesStartOnlyOnAnOpenBus : Obligations.ExchangesStartOnlyOnAnOpenBus := by
  intro s t hstep hreset hstart
  have hcases := runTurn_exchange_cases hreset hstep
  rw [takeTurn_busy, takeTurn_busOpen, takeTurn_tx] at hcases
  refine hcases.resolve_right fun ⟨htx, hidle⟩ => ?_
  rcases hstart with ⟨a, ha⟩ | ⟨hbusy, hbusy'⟩
  · exact ha (by rw [htx])
  · exact Bool.false_ne_true ((hidle hbusy).symm.trans hbusy')

/-! ## The placed word (log 16) -/

theorem atIssueOf_turns (i : Instr) (s : State) : (atIssueOf i s).turns = .issue :: s.turns := by
  cases i <;> rfl

theorem atIssueOf_cfg (i : Instr) (s : State) : (atIssueOf i s).cfg = s.cfg := by
  cases i <;> rfl

/-- The action by which a placed frame is issued. -/
def placedAction : Instr → Action
  | .velocity _ _ => .velocity
  | .sensorSetup => .startCycle
  | .sensorAccel => .sensor .accel
  | .sensorGyro => .sensor .gyro
  | .sensorPosition => .sensor .position
  | .sensorDeadReckoning => .sensor .deadReckoning
  | .ping => .ping
  | .ack => .ack
  | _ => .preempt

/-- The state a placed frame is issued in: a boundary, with the bus open, where its action is selected. -/
structure PlacedAt (i : Instr) (u : State) : Prop where
  busy : u.busy = false
  bus : u.busOpen = true
  sel : select u = some (placedAction i)
  instr : (placedAction i).instr u = i

theorem placedAt_atIssueOf {i : Instr} (hi : Claims.isFrame i = true) (s : State) (ts : List Turn) :
    PlacedAt i { atIssueOf i s with turns := ts } := by
  cases i with
  | velocity => exact ⟨rfl, rfl, select_velocity rfl rfl rfl rfl rfl, rfl⟩
  | sensorSetup => exact ⟨rfl, rfl, select_startCycle rfl rfl rfl rfl rfl rfl, rfl⟩
  | sensorAccel | sensorGyro | sensorPosition | sensorDeadReckoning => exact ⟨rfl, rfl, select_sensor rfl rfl rfl rfl, rfl⟩
  | ping => exact ⟨rfl, rfl, select_ping rfl rfl rfl, rfl⟩
  | ack => exact ⟨rfl, rfl, select_ack rfl rfl rfl, rfl⟩
  | shutdown => exact ⟨rfl, rfl, select_preempt (.inr rfl) rfl, rfl⟩
  | start | setVelocity | terminate | hostReservedZero | hostReservedLow | hostReservedHigh => exact Bool.noConfusion hi

/-- Only VELOCITY is issued from the slot, and a well-formed one puts finite values there. -/
theorem PlacedAt.slotFinite {i : Instr} {u : State} (h : PlacedAt i u) (hwf : i.WellFormed = true)
    (ha : placedAction i = .velocity) : isFinite u.slotLin = true ∧ isFinite u.slotAng = true := by
  have hinstr := h.instr
  rw [ha] at hinstr
  rw [← hinstr] at hwf
  simpa [Action.instr, Instr.WellFormed] using hwf

/-- Settles O43: a host word is the next turn; a frame is issued by the action that its state selects. -/
theorem placedWordIsRunNext : Obligations.PlacedWordIsRunNext := by
  intro s nbits w
  refine ⟨fun h hplace => ?_, fun F i hplace hdecode hwf => ?_⟩
  · rw [State.withFetchWord, hplace, placePacket, step_listed (ts := s.turns) rfl]
    rfl
  · have hplaced : s.withFetchWord nbits w = atIssueOf i s := by
      rw [State.withFetchWord, hplace, placePacket, hdecode]
    have hat := placedAt_atIssueOf (isFrame_of_decodeFrame hdecode) s s.turns
    have hexec := exec_issue hat.busy hat.bus hat.sel (hat.slotFinite hwf)
    have henc := encode_instr (placedAction i) { atIssueOf i s with turns := s.turns }
    have hframe := selectedFrame_of_select hat.busy hat.bus hat.sel
    rw [hat.instr] at hexec henc hframe
    have hstep : step (s.withFetchWord nbits w) = exec i { atIssueOf i s with turns := s.turns } := by
      rw [hplaced, step_listed (atIssueOf_turns i s), runTurn_issue_of_selected hframe]
    exact ⟨_, _, hstep.trans hexec, rfl, (congrArg (encode · i) (atIssueOf_cfg i s)).symm.trans henc, Memory.read_ofFrame _⟩

end Sys2Proof.Machine
end

section
/-! SUPPORT. Runs of a few steps, one step at a time: 20_memory.md R83, 42_link_session.md R247. -/

namespace Sys2Proof.Machine

variable {s t : State}

/-- A run whose first step is known. -/
theorem run_succ_of_step {u : State} (h : step s = .next u) (n : Nat) :
    Host.Core.run Sys2Proof.core (n + 1) s = Host.Core.run Sys2Proof.core n u := by
  have hstep : Sys2Proof.core.step s = .next u := h
  exact (Host.Core.run.eq_2 Sys2Proof.core s n).trans (by rw [hstep])

/-- The Sequencer's listed turn, where an action is selected. -/
theorem step_issue {ts : List Turn} {a : Action} (hturns : s.turns = .issue :: ts) (hbusy : s.busy = false)
    (hbus : s.busOpen = true) (hsel : select s = some a)
    (hslot : a = .velocity → isFinite s.slotLin = true ∧ isFinite s.slotAng = true) :
    step s = .next (sendFrame (a.frame s) (a.prepare { s with turns := ts })) := by
  have hframe := selectedFrame_of_select (s := { s with turns := ts }) hbusy hbus hsel
  rw [step_listed hturns, runTurn_issue_of_selected hframe]
  exact exec_issue hbusy hbus hsel hslot

/-- The Transport's listed turn, with a frame in flight. -/
theorem step_complete {ts : List Turn} {i : Instr} {o : XferOutcome} (hturns : s.turns = .complete o :: ts)
    (hbusy : s.busy = true) (htx : txInstr s = .ok i) :
    step s = .next (completionOf i (deliver { s with turns := ts, outcome := o })) := by
  rw [step_listed hturns, runTurn_complete_of_inFlight (s := { s with turns := ts }) hbusy htx]
  exact exec_inFlight hbusy htx

/-! ## The velocity slot (R83) -/

/-- `s` with a command accepted into the slot. -/
def queue (lin ang : Word) (ts : List Turn) (s : State) : State :=
  { s with slotLin := lin, slotAng := ang, slotValid := true, responses := s.responses ++ [.ok], turns := ts }

theorem step_setVelocity {lin ang : Word} {ts : List Turn} (hturns : s.turns = .host ⟨0x2, lin, ang⟩ :: ts)
    (hlin : isFinite lin = true) (hang : isFinite ang = true) (hlink : s.linkState = .ready) (hterm : s.termPending = false) :
    step s = .next (queue lin ang ts s) := by
  obtain ⟨-, hopen⟩ := setVelocityCommand lin ang { s with turns := ts }
  obtain ⟨-, haccept⟩ := hopen (by simp [hlink]) (by simp [hlink]) hterm
  rw [step_listed hturns]
  exact haccept ⟨(isFinite_iff lin).1 hlin, (isFinite_iff ang).1 hang⟩

/-- At a boundary with nothing before the slot in the selection, a command just accepted is sent. -/
theorem step_queued {lin ang : Word} (hlin : isFinite lin = true) (hang : isFinite ang = true) (hlink : s.linkState = .ready)
    (hbusy : s.busy = false) (hbus : s.busOpen = true) (hterm : s.termPending = false) (hack : s.ackPending = false)
    (hcycle : s.cycleActive = false) :
    ∃ t, step (queue lin ang [.issue] s) = .next t ∧ t.busy = true ∧ t.slotValid = false ∧
      ∀ a, t.tx.read a = (velocityFrame lin ang).get a := by
  have hsel : select (queue lin ang [.issue] s) = some .velocity := select_velocity hlink hterm hack hcycle rfl
  exact ⟨_, step_issue rfl hbusy hbus hsel fun _ => ⟨hlin, hang⟩, rfl, rfl, Memory.read_ofFrame _⟩

/-- Settles O49: the second command overwrites the slot, and the Sequencer's turn sends it. -/
theorem latestVelocityIsSent : Obligations.LatestVelocityIsSent := by
  intro s l1 a1 l2 a2 hl1 ha1 hl2 ha2 hlink hbusy hbus hterm hack hcycle hturns
  have hstep1 := step_setVelocity hturns hl1 ha1 hlink hterm
  have hstep2 := step_setVelocity (s := queue l1 a1 [.host ⟨0x2, l2, a2⟩, .issue] s) rfl hl2 ha2 hlink hterm
  obtain ⟨t, hstep3, hsent, hslot, htx⟩ :=
    step_queued (s := queue l1 a1 [.host ⟨0x2, l2, a2⟩, .issue] s) hl2 ha2 hlink hbusy hbus hterm hack hcycle
  have hrun : Host.Core.run core 3 s = .next t :=
    (run_succ_of_step hstep1 2).trans ((run_succ_of_step hstep2 1).trans (run_succ_of_step hstep3 0))
  exact ⟨t, hrun, hsent, hslot, fun a => (htx a).trans (Frame.get_eq_getD (n := 7) (velocityFrame_bytes l2 a2) a)⟩

/-! ## The handshake (R247) -/

/-- A boundary of the handshake at which the next probe is sent. -/
structure AtProbe (s : State) : Prop where
  link : s.linkState = .handshaking
  bus : s.busOpen = true
  busy : s.busy = false
  wait : s.probeWait = false
  term : s.termPending = false

theorem AtProbe.issue {ts : List Turn} (h : AtProbe s) (hturns : s.turns = .issue :: ts) :
    step s = .next (sendFrame encodeProbe { s with turns := ts }) :=
  step_issue hturns h.busy h.bus (select_ping h.link h.term h.wait) nofun

/-- `s` with the probe sent, the turn of its completion taken, and the outcome presented. -/
def probed (o : XferOutcome) (ts : List Turn) (s : State) : State :=
  { sendFrame encodeProbe s with turns := ts, outcome := o }

theorem step_completePing (s : State) (o : XferOutcome) (ts : List Turn) :
    step (sendFrame encodeProbe { s with turns := .complete o :: ts }) = .next (completePing (deliver (probed o ts s))) :=
  step_complete rfl rfl (txInstr_of_ping (Memory.read_ofFrame _ _))

/-- A probe that is not confirmed is counted, and its delay leads to the next boundary. -/
theorem AtProbe.round {x : XferOutcome} {ts : List Turn} (h : AtProbe s)
    (hturns : s.turns = .issue :: .complete x :: .probeDelay :: ts) (hconf : ¬ Claims.Confirms x) :
    ∃ s1 s2 s3, step s = .next s1 ∧ step s1 = .next s2 ∧ step s2 = .next s3 ∧ s1.linkState = .handshaking ∧
      s2.linkState = .handshaking ∧ AtProbe s3 ∧ s3.turns = ts ∧ s3.probeFails = s.probeFails + 1 ∧ s3.cfg = s.cfg := by
  have hcomplete := step_completePing s x (.probeDelay :: ts)
  rw [completePing_of_not_confirms (s := probed x (.probeDelay :: ts) s) hconf] at hcomplete
  have hdelay := step_listed (s := completePing.probeFailed (deliver (probed x (.probeDelay :: ts) s))) rfl
  exact ⟨_, _, _, h.issue hturns, hcomplete, hdelay, h.link, h.link, ⟨h.link, h.bus, rfl, rfl, h.term⟩, rfl, rfl, rfl⟩

/-- A probe that is confirmed enters Ready, where the ACK is the first frame. -/
theorem AtProbe.confirm {o : XferOutcome} {ts : List Turn} (h : AtProbe s)
    (hturns : s.turns = .issue :: .complete o :: .issue :: ts) (hconf : Claims.Confirms o) :
    ∃ s1 t u, step s = .next s1 ∧ step s1 = .next t ∧ step t = .next u ∧ s1.linkState = .handshaking ∧
      t.linkState = .ready ∧ t.ackPending = true ∧ t.probeFails = s.probeFails ∧ u.busy = true ∧
      ∀ a, u.tx.read a = [s.cfg.opAck].getD a 0x00 := by
  have hcomplete := step_completePing s o (.issue :: ts)
  rw [completePing_of_confirms (s := probed o (.issue :: ts) s) hconf] at hcomplete
  have hack := step_issue (s := { deliver (probed o (.issue :: ts) s) with linkState := .ready, ackPending := true }) rfl rfl
    h.bus (select_ack rfl h.term rfl) nofun
  exact ⟨_, _, _, h.issue hturns, hcomplete, hack, h.link, rfl, rfl, rfl, rfl,
    (sends_sendFrame (n := 15) (encodePoll_bytes s.cfg.opAck) s).2⟩

/-- After `n` unconfirmed probes and a confirmed one, all of them in Handshaking, the session is in Ready and sends the ACK. -/
def ReachesReady (n : Nat) (s : State) : Prop :=
  (∀ j v, j < 3 * n + 2 → Host.Core.run Sys2Proof.core j s = .next v → v.linkState = .handshaking) ∧
  ∃ t u, Host.Core.run Sys2Proof.core (3 * n + 2) s = .next t ∧ t.linkState = .ready ∧ t.ackPending = true ∧
    t.probeFails = s.probeFails + BitVec.ofNat 32 n ∧ step t = .next u ∧ u.busy = true ∧
    ∀ a, u.tx.read a = [s.cfg.opAck].getD a 0x00

theorem AtProbe.reachesReady_zero {o : XferOutcome} {ts : List Turn} (h : AtProbe s)
    (hturns : s.turns = .issue :: .complete o :: .issue :: ts) (hconf : Claims.Confirms o) : ReachesReady 0 s := by
  obtain ⟨s1, t, u, hstep1, hstep2, hstep3, hlink1, hlink, hack, hfails, hbusy, htx⟩ := h.confirm hturns hconf
  have hrun1 := run_succ_of_step hstep1
  refine ⟨fun j v hj hrun => ?_, t, u, (hrun1 1).trans (run_succ_of_step hstep2 0), hlink, hack, by simp [hfails],
    hstep3, hbusy, htx⟩
  match j with
  | 0 =>
    cases hrun
    exact h.link
  | 1 =>
    cases (hrun1 0).symm.trans hrun
    exact hlink1

theorem AtProbe.reachesReady_succ {x : XferOutcome} {ts : List Turn} {n : Nat} (h : AtProbe s)
    (hturns : s.turns = .issue :: .complete x :: .probeDelay :: ts) (hconf : ¬ Claims.Confirms x)
    (hrest : ∀ v, AtProbe v → v.turns = ts → ReachesReady n v) : ReachesReady (n + 1) s := by
  obtain ⟨s1, s2, s3, hstep1, hstep2, hstep3, hlink1, hlink2, hat, hturns3, hfails, hcfg⟩ := h.round hturns hconf
  obtain ⟨hbefore, t, u, hrun, hlink, hack, hcount, hnext, hbusy, htx⟩ := hrest s3 hat hturns3
  have hskip : ∀ m, Host.Core.run Sys2Proof.core (m + 3) s = Host.Core.run Sys2Proof.core m s3 := fun m =>
    (run_succ_of_step hstep1 (m + 2)).trans
      ((run_succ_of_step hstep2 (m + 1)).trans (run_succ_of_step hstep3 m))
  refine ⟨fun j v hj hv => ?_, t, u, (hskip (3 * n + 2)).trans hrun, hlink, hack, ?_, hnext, hbusy, hcfg ▸ htx⟩
  · match j with
    | 0 =>
      cases hv
      exact h.link
    | 1 =>
      cases (run_succ_of_step hstep1 0).symm.trans hv
      exact hlink1
    | 2 =>
      cases ((run_succ_of_step hstep1 1).trans (run_succ_of_step hstep2 0)).symm.trans hv
      exact hlink2
    | j + 3 => exact hbefore j v (by omega) ((hskip j).symm.trans hv)
  · rw [hcount, hfails, Nat.add_comm n 1, BitVec.ofNat_add, BitVec.add_assoc]
    rfl

/-- Settles O50, by induction on the outcomes that do not confirm. -/
theorem handshakeReachesReadyOnTheConfirmingReply : Obligations.HandshakeReachesReadyOnTheConfirmingReply := by
  intro s os o ts hos ho hlink hbus hbusy hwait hterm hturns
  have hat : AtProbe s := ⟨hlink, hbus, hbusy, hwait, hterm⟩
  clear hlink hbus hbusy hwait hterm
  show ReachesReady os.length s
  induction os generalizing s with
  | nil => exact hat.reachesReady_zero hturns ho
  | cons x os ih =>
    obtain ⟨hx, hxs⟩ := List.forall_mem_cons.1 hos
    exact hat.reachesReady_succ hturns hx fun v hv hvturns => ih v hxs hvturns hv

end Sys2Proof.Machine
end

section
/-! SUPPORT. 44_shutdown.md R304 and 70_reset_and_hazards.md R371: how `shutdown_count` moves, and the two SHUTDOWN exchanges
that close a session. -/

namespace Sys2Proof.Machine

variable {s t : State}

/-! ## The count, turn by turn -/

/-- From `s` to `t` the count follows the SHUTDOWN frames sent. -/
def CountFollows (s t : State) : Prop :=
  (Claims.SendsShutdown s t ∧ t.shutdownCount.val = s.shutdownCount.val + 1) ∨
    (¬ Claims.SendsShutdown s t ∧ t.shutdownCount = s.shutdownCount)

/-- A turn after which nothing is in flight sends no frame. -/
theorem CountFollows.of_not_busy (hbusy : t.busy = false) (hcount : t.shutdownCount = s.shutdownCount) : CountFollows s t :=
  .inr ⟨fun ⟨_, hsent, _⟩ => Bool.false_ne_true (hbusy.symm.trans hsent), hcount⟩

/-- Nor does one that leaves `busy` as it is. -/
theorem CountFollows.of_same (hbusy : t.busy = s.busy) (hcount : t.shutdownCount = s.shutdownCount) : CountFollows s t :=
  .inr ⟨fun ⟨hidle, hsent, _⟩ => Bool.false_ne_true (hidle.symm.trans (hbusy.symm.trans hsent)), hcount⟩

theorem Inv.count_eq_zero (hs : Inv s) (hlink : s.linkState = .handshaking ∨ s.linkState = .ready) : s.shutdownCount = 0 := by
  have hrow := hs.linkRow
  rcases hlink with hlink | hlink <;> simp only [LinkRow, hlink] at hrow
  · obtain ⟨-, -, -, -, hcount⟩ := hrow
    exact hcount
  · obtain ⟨-, -, -, hcount⟩ := hrow
    exact hcount

theorem sendsShutdown_issue_iff (a : Action) (hbusy : s.busy = false) :
    Claims.SendsShutdown s (sendFrame (a.frame s) (a.prepare s)) ↔ a.instr s = .shutdown := by
  have hsent := txInstr_issued a s
  have hop : (sendFrame (a.frame s) (a.prepare s)).cfg.opShutdown = s.cfg.opShutdown := by rw [sendFrame_cfg, a.prepare_cfg]
  constructor
  · rintro ⟨-, -, htx⟩
    exact Except.ok.inj (hsent.symm.trans (txInstr_of_shutdown (htx.trans hop.symm)))
  · intro hi
    rw [hi] at hsent
    exact ⟨hbusy, rfl, (opcode_of_txInstr_shutdown hsent).trans hop⟩

/-- PREEMPT counts its frame from 0, the issue in ShuttingDown from 1, and no other issue counts. -/
theorem Inv.countFollows_issue {a : Action} (hs : Inv s) (hbusy : s.busy = false) (hsel : select s = some a) :
    CountFollows s (sendFrame (a.frame s) (a.prepare s)) := by
  have hok := select_ok hsel
  rw [CountFollows, sendsShutdown_issue_iff a hbusy]
  cases a with
  | preempt => exact .inl ⟨rfl, by rw [hs.count_eq_zero hok.1]; rfl⟩
  | shutdown =>
    obtain ⟨hlink, -⟩ := hok
    have hone := hs.shutdown_boundary hlink hbusy
    exact .inl ⟨rfl, by rw [sendFrame_shutdownCount, Action.prepare, hone]; rfl⟩
  | sensor k => exact .inr ⟨by cases k <;> exact Instr.noConfusion, rfl⟩
  | ping | ack | velocity | startCycle => exact .inr ⟨Instr.noConfusion, rfl⟩

theorem HostEffect.shutdownCount (h : HostEffect s t) : t.shutdownCount = s.shutdownCount := by
  cases h <;> rfl

theorem runTurn_countFollows {u : Turn} (hs : Inv s) (hreset : Claims.notReset u) (h : runTurn u s = .next t) :
    CountFollows s t := by
  rcases runTurn_next h with ⟨rfl, ⟨-, rfl⟩ | ⟨i, hframe, hi⟩⟩ | ⟨w, -, hw⟩ | ⟨o, -, ⟨-, rfl⟩ | ⟨i, hbusy, htx, hi⟩⟩ |
    ⟨-, rfl⟩ | ⟨-, rfl⟩ | ⟨p, -, rfl, -⟩
  · exact .of_same rfl rfl
  · obtain ⟨hbusy, -⟩ := selectedFrame_eq_some.1 hframe
    obtain ⟨a, hsel, -, rfl⟩ := exec_issue_next hframe hi
    exact hs.countFollows_issue hbusy hsel
  · obtain ⟨v, hv, heffect⟩ := exec_decodeHost_effect w s
    cases hv.symm.trans hw
    exact .of_same (exec_sameExchange_of_not_frame (isFrame_decodeHost w) hw).busy heffect.shutdownCount
  · exact .of_same rfl rfl
  · cases (exec_inFlight (s := { s with outcome := o }) hbusy htx).symm.trans hi
    have hkept := keptByCompletion i { s with outcome := o }
    exact .of_not_busy hkept.busy hkept.shutdownCount
  · exact .of_same rfl rfl
  · exact .of_same rfl rfl
  · exact absurd rfl (hreset p)

theorem step_countFollows (hs : Inv s) (hreset : Claims.notReset (nextTurn s)) (h : step s = .next t) : CountFollows s t := by
  have hcount := runTurn_countFollows hs.takeTurn hreset h
  rwa [CountFollows, Claims.SendsShutdown, takeTurn_busy, takeTurn_cfg, takeTurn_shutdownCount] at hcount

/-- A session leaves ShuttingDown for Closed alone, at the completion of the second frame. -/
theorem step_leaves_shuttingDown (hs : Inv s) (hreset : Claims.notReset (nextTurn s)) (h : step s = .next t)
    (hfrom : s.linkState = .shuttingDown) (hto : t.linkState ≠ .shuttingDown) : t.linkState = .closed ∧ t.shutdownCount = 2 := by
  rcases linkStateTransitions s t hs h hreset with hlink | ⟨hlink, -⟩ | ⟨hlink, -⟩ | ⟨hlink, -⟩ | ⟨-, hlink, -⟩ |
    ⟨-, hlink, hbusy, -, hcount, -⟩
  · exact absurd (hlink.trans hfrom) hto
  · cases hlink.symm.trans hfrom
  · cases hlink.symm.trans hfrom
  · cases hlink.symm.trans hfrom
  · exact absurd hlink hto
  · refine ⟨hlink, ?_⟩
    rcases step_countFollows hs hreset h with ⟨⟨hidle, -⟩, -⟩ | ⟨-, hkept⟩
    · exact absurd (hidle.symm.trans hbusy) Bool.false_ne_true
    · exact hkept.trans hcount

/-! ## The two exchanges -/

/-- A session shutting down under the configuration `c`, with `n` frames counted. -/
structure Ending (c : Config) (n : Fin 3) (s : State) : Prop where
  cfg : s.cfg = c
  link : s.linkState = .shuttingDown
  bus : s.busOpen = true
  count : s.shutdownCount = n

/-- With its frame in flight. -/
structure EndingFrame (c : Config) (n : Fin 3) (s : State) : Prop extends Ending c n s where
  busy : s.busy = true
  tx : s.tx = Memory.ofFrame (encodeShutdown c)

variable {c : Config} {n : Fin 3}

theorem EndingFrame.txInstr (h : EndingFrame c n s) : txInstr s = .ok .shutdown := by
  apply txInstr_of_shutdown
  rw [h.tx, h.cfg, Memory.read_ofFrame]
  rfl

theorem EndingFrame.read (h : EndingFrame c n s) (a : Nat) : s.tx.read a = [c.opShutdown, c.shutdownSentinel].getD a 0x00 := by
  rw [h.tx, Memory.read_ofFrame]
  exact Frame.get_eq_getD (n := 14) (encodeShutdown_bytes c) a

/-- R232: the termination is taken, and the first frame sent. -/
theorem step_preempt {ts : List Turn} (hturns : s.turns = .issue :: ts) (hbusy : s.busy = false) (hbus : s.busOpen = true)
    (hlink : s.linkState = .handshaking ∨ s.linkState = .ready) (hterm : s.termPending = true) :
    ∃ t, step s = .next t ∧ EndingFrame s.cfg 1 t ∧ t.turns = ts := by
  refine ⟨_, step_issue hturns hbusy hbus (select_preempt hlink hterm) nofun, ?_, Action.prepare_turns .preempt _⟩
  have hkept := Action.keptByIssue .preempt { s with turns := ts }
  exact ⟨⟨hkept.cfg, rfl, hkept.busOpen.trans hbus, rfl⟩, rfl, rfl⟩

/-- R302: after the first exchange the session stays in ShuttingDown, at a boundary. -/
theorem EndingFrame.complete_first {o : XferOutcome} {ts : List Turn} (h : EndingFrame c 1 s)
    (hturns : s.turns = .complete o :: ts) : ∃ t, step s = .next t ∧ Ending c 1 t ∧ t.busy = false ∧ t.turns = ts := by
  have hcount : (deliver { s with turns := ts, outcome := o }).shutdownCount ≠ 2 := by simp [h.count]
  refine ⟨_, step_complete hturns h.busy h.txInstr, ?_⟩
  rw [completionOf, completeShutdown_of_not_two hcount]
  exact ⟨⟨h.cfg, h.link, h.bus, h.count⟩, rfl, rfl⟩

/-- R301: the second frame is sent. -/
theorem Ending.issue_second {ts : List Turn} (h : Ending c 1 s) (hbusy : s.busy = false) (hturns : s.turns = .issue :: ts) :
    ∃ t, step s = .next t ∧ EndingFrame c 2 t ∧ t.turns = ts := by
  have hsel : select s = some .shutdown := select_shutdown h.link (by rw [h.count]; decide)
  refine ⟨_, step_issue hturns hbusy h.bus hsel nofun, ⟨⟨h.cfg, h.link, h.bus, ?_⟩, rfl, ?_⟩, rfl⟩
  · rw [sendFrame_shutdownCount, Action.prepare, h.count]
    rfl
  · rw [sendFrame_tx, Action.frame, h.cfg]

/-- R302, R303: the second exchange releases the bus. -/
theorem EndingFrame.complete_second {o : XferOutcome} {ts : List Turn} (h : EndingFrame c 2 s)
    (hturns : s.turns = .complete o :: ts) :
    ∃ t, step s = .next t ∧ t.busy = false ∧ t.linkState = .closed ∧ t.busOpen = false ∧ t.shutdownCount = 2 ∧ t.turns = ts := by
  refine ⟨_, step_complete hturns h.busy h.txInstr, ?_⟩
  rw [completionOf, completeShutdown_of_two (s := deliver { s with turns := ts, outcome := o }) h.count]
  exact ⟨rfl, rfl, rfl, h.count, rfl⟩

theorem Inv.bus_of_session (hs : Inv s) (hlink : s.linkState = .handshaking ∨ s.linkState = .ready) : s.busOpen = true :=
  hs.bus_states.2 (hlink.imp_right .inl)

/-- Settles O51: the count follows the frames turn by turn, and the four turns are the two exchanges. -/
theorem shutdownSendsTwoFramesAndCloses : Obligations.ShutdownSendsTwoFramesAndCloses := by
  refine ⟨fun s t hs hstep hreset => ?count, fun s o1 o2 ts hs hbusy hlink hterm hturns => ?schedule⟩
  case count =>
    refine ⟨fun hsends => ?_, fun hno => ?_, step_leaves_shuttingDown hs hreset hstep⟩
    · rcases step_countFollows hs hreset hstep with ⟨-, hcount⟩ | ⟨hno, -⟩
      · exact hcount
      · exact absurd hsends hno
    · rcases step_countFollows hs hreset hstep with ⟨hsends, -⟩ | ⟨-, hcount⟩
      · exact absurd hsends hno
      · exact hcount
  case schedule =>
    obtain ⟨t1, hstep1, h1, hturns1⟩ := step_preempt hturns hbusy (hs.bus_of_session hlink) hlink hterm
    obtain ⟨t2, hstep2, h2, hbusy2, hturns2⟩ := h1.complete_first hturns1
    obtain ⟨t3, hstep3, h3, hturns3⟩ := h2.issue_second hbusy2 hturns2
    obtain ⟨t4, hstep4, hclosed⟩ := h3.complete_second hturns3
    exact ⟨t1, t2, t3, t4, hstep1, hstep2, hstep3, hstep4, h1.busy, h1.read, hbusy2, h2.link, h3.busy, h3.read, hclosed⟩

/-! ## After a TERMINATE (R371) -/

theorem step_terminate {a b : Word} {ts : List Turn} (hturns : s.turns = .host ⟨0x3, a, b⟩ :: ts)
    (hlink : s.linkState = .handshaking ∨ s.linkState = .ready) :
    step s = .next { s with turns := ts, termPending := true, responses := s.responses ++ [.ok] } := by
  obtain ⟨-, hsession, -⟩ := terminateCommand a b { s with turns := ts }
  rw [step_listed hturns]
  exact hsession hlink

/-- A completion's turn leads from Handshaking or Ready into one of the two (R210), and keeps a pending termination. -/
theorem step_complete_session {o : XferOutcome} {ts : List Turn} (hs : Inv s) (hturns : s.turns = .complete o :: ts)
    (hlink : s.linkState = .handshaking ∨ s.linkState = .ready) :
    ∃ t, step s = .next t ∧ t.busy = false ∧ (t.linkState = .handshaking ∨ t.linkState = .ready) ∧
      t.termPending = s.termPending ∧ t.turns = ts := by
  cases hbusy : s.busy with
  | false =>
    have hstep : step s = .next { s with turns := ts } :=
      (step_listed hturns).trans (runTurn_complete_of_idle (s := { s with turns := ts }) hbusy o)
    exact ⟨_, hstep, hbusy, hlink, rfl, rfl⟩
  | true =>
    obtain ⟨i, htx, -⟩ := hs.inFlight hbusy
    have hstep := step_complete hturns hbusy htx
    have hkept := keptByCompletion i { s with turns := ts, outcome := o }
    have hturn := nextTurn_of_turns hturns
    refine ⟨_, hstep, hkept.busy, ?_, hkept.termPending, hkept.turns⟩
    rcases linkStateTransitions _ _ hs hstep (fun p hp => nomatch hturn.symm.trans hp) with h | ⟨h, -⟩ | ⟨h, -⟩ | ⟨-, h, -⟩ |
      ⟨-, -, h, -⟩ | ⟨h, -⟩
    · rw [h]
      exact hlink
    · simp [h] at hlink
    · simp [h] at hlink
    · exact .inr h
    · exact absurd (h.symm.trans hbusy) Bool.false_ne_true
    · simp [h] at hlink

/-- Settles O52: the exchange in flight ends, and then the two SHUTDOWN exchanges close the session. -/
theorem terminateClosesWithinThreeExchanges : Obligations.TerminateClosesWithinThreeExchanges := by
  intro s a b o0 o1 o2 ts hs hlink hturns
  have hstep1 := step_terminate hturns hlink
  have hs1 := stepKeepsTheInvariant _ _ hs hstep1
  obtain ⟨t, hstep2, hbusy, hlink2, hterm, hturns2⟩ := step_complete_session hs1 rfl hlink
  have hs2 := stepKeepsTheInvariant _ _ hs1 hstep2
  obtain ⟨-, hschedule⟩ := shutdownSendsTwoFramesAndCloses
  obtain ⟨t1, t2, t3, t4, hstep3, hstep4, hstep5, hstep6, -, -, -, -, -, -, -, hclosed, hbus, hcount, -⟩ :=
    hschedule t o1 o2 ts hs2 hbusy hlink2 hterm hturns2
  refine ⟨t4, ?_, hclosed, hbus, hcount⟩
  rw [run_succ_of_step hstep1, run_succ_of_step hstep2, run_succ_of_step hstep3, run_succ_of_step hstep4,
    run_succ_of_step hstep5, run_succ_of_step hstep6]
  rfl

end Sys2Proof.Machine
end

section
/-! SUPPORT. 41_transport.md R187, 60_exceptions.md R345: what weak fairness gives over an infinite run. -/

namespace Sys2Proof.Machine

variable {s t : State}

theorem runTurn_complete_not_busy {o : XferOutcome} (h : runTurn (.complete o) s = .next t) : t.busy = false := by
  rcases runTurn_next h with ⟨hu, -⟩ | ⟨w, hu, -⟩ | ⟨p, -, ⟨hbusy, rfl⟩ | ⟨i, hbusy, htx, hi⟩⟩ | ⟨hu, -⟩ | ⟨hu, -⟩ |
    ⟨p, c, hu, -⟩
  · cases hu
  · cases hu
  · exact hbusy
  · exact (exec_completion (s := { s with outcome := p }) hbusy htx hi).busy
  · cases hu
  · cases hu
  · cases hu

theorem Leads.not_busy_of_completionTaken (h : Leads s t) (htaken : completionTaken s) : ¬ completionEnabled t := by
  obtain ⟨v, hstep, ht⟩ := h
  obtain ⟨o, hturn⟩ := htaken
  rw [step, hturn] at hstep
  rw [completionEnabled, ht, runTurn_complete_not_busy hstep]
  exact Bool.false_ne_true

theorem Leads.not_wait_of_probeDelayTaken (h : Leads s t) (htaken : probeDelayTaken s) : ¬ probeDelayEnabled t := by
  obtain ⟨v, hstep, ht⟩ := h
  rw [step, htaken, runTurn] at hstep
  cases hstep
  rw [probeDelayEnabled, ht]
  exact Bool.false_ne_true

/-- An exchange in flight is ended by a completion or by a RESET (R189). -/
theorem Leads.ends (h : Leads s t) (hbusy : s.busy = true) (hended : t.busy = false) :
    (∃ o, nextTurn s = .complete o) ∨ ∃ p, nextTurn s = .reset p := by
  obtain ⟨v, hstep, ht⟩ := h
  by_contra hno
  rw [not_or, not_exists, not_exists] at hno
  obtain ⟨hcomplete, hreset⟩ := hno
  obtain ⟨hbusy', -⟩ := noFrameIsAbortedButByReset s v hbusy hstep hreset hcomplete
  rw [ht] at hended
  exact Bool.false_ne_true (hended.symm.trans hbusy')

/-- From a step on, either `p` holds up to `m`, or there is a last step before it first fails. -/
theorem holds_or_fails_first {p : Nat → Prop} {n m : Nat} (hn : p n) (hle : n ≤ m) :
    (∀ k, n ≤ k → k ≤ m → p k) ∨ ∃ l, n ≤ l ∧ (∀ k, n ≤ k → k ≤ l → p k) ∧ ¬ p (l + 1) := by
  induction m, hle using Nat.le_induction with
  | base =>
    refine .inl fun k hk hk' => ?_
    rwa [Nat.le_antisymm hk' hk]
  | succ m hle ih =>
    refine ih.elim (fun hall => ?_) .inr
    by_cases hm : p (m + 1)
    · refine .inl fun k hk hk' => ?_
      rcases Nat.le_succ_iff.1 hk' with h | rfl
      · exact hall k hk h
      · exact hm
    · exact .inr ⟨m, hle, hall, hm⟩

/-- Settles O60: fairness disables each of the two steps at last, and the exchange ends where it is first found ended. -/
theorem fairRunsEndExchangesAndDelays : Obligations.FairRunsEndExchangesAndDelays := by
  rintro r n ⟨hrun, hfairComplete, hfairDelay⟩
  refine ⟨fun hbusy => ?_, fun hwait => ?_⟩
  · obtain ⟨e, hle, hidle⟩ := hfairComplete.disabled (fun m => (hrun m).not_busy_of_completionTaken) n
    rcases holds_or_fails_first (p := fun k => (r k).busy = true) hbusy hle with hall | ⟨m, hm, hall, hended⟩
    · exact absurd (hall e hle le_rfl) hidle
    · have hended' : (r (m + 1)).busy = false := Bool.eq_false_iff.2 hended
      exact ⟨m, hm, hall, hended', (hrun m).ends (hall m hm le_rfl) hended'⟩
  · obtain ⟨m, hle, hidle⟩ := hfairDelay.disabled (fun m => (hrun m).not_wait_of_probeDelayTaken) n
    have hne : n ≠ m := fun h => hidle (h ▸ hwait)
    exact ⟨m, by omega, Bool.eq_false_iff.2 hidle⟩

end Sys2Proof.Machine
end

section
/-! SUPPORT. 43_telemetry.md R260, R264: the special operands of `fmul32`, and the quaternion composer's corner cases. -/

namespace Sys2Proof

variable {a b v : Word}

/-! ## Kinds of patterns -/

theorem isFinite_eq (v : Word) : isFinite v = !(expField v == 0xFF) := rfl

theorem not_finite_of_isNaN (h : isNaN v = true) : isFinite v = false := by
  obtain ⟨hexp, -⟩ := Bool.and_eq_true_iff.1 h
  rw [isFinite_eq, hexp]
  rfl

theorem not_finite_of_isInf (h : isInf v = true) : isFinite v = false := by
  obtain ⟨hexp, -⟩ := Bool.and_eq_true_iff.1 h
  rw [isFinite_eq, hexp]
  rfl

theorem not_isNaN_of_finite (h : isFinite v = true) : isNaN v = false := by
  rw [Bool.eq_false_iff]
  intro hnan
  exact Bool.false_ne_true ((not_finite_of_isNaN hnan).symm.trans h)

theorem not_isInf_of_finite (h : isFinite v = true) : isInf v = false := by
  rw [Bool.eq_false_iff]
  intro hinf
  exact Bool.false_ne_true ((not_finite_of_isInf hinf).symm.trans h)

/-- A pattern that is not finite is an infinity or a NaN, by its fraction. -/
theorem isInf_eq_not_isNaN (h : isFinite v = false) : isInf v = !isNaN v := by
  have hexp : (expField v == 0xFF) = true := by simpa [isFinite_eq] using h
  rw [isInf, isNaN, hexp, Bool.true_and, Bool.true_and, bne, Bool.not_not]

theorem not_isNaN_of_isInf (h : isInf v = true) : isNaN v = false := by
  rwa [isInf_eq_not_isNaN (not_finite_of_isInf h), Bool.not_eq_true'] at h

theorem not_isZero_of_isInf (h : isInf v = true) : isZero v = false := isZero_eq_false_of_not_finite (not_finite_of_isInf h)

theorem finite_of_isZero (h : isZero v = true) : isFinite v = true := (atMostOne_of_isZero h).isFinite

/-! ## A sign over 31 bits -/

@[simp] theorem signBit_withSign (neg : Bool) (m : BitVec 31) : signBit (withSign neg m) = neg := by
  rw [signBit, withSign, BitVec.getLsbD_append]
  simp

@[simp] theorem extractLsb'_withSign (neg : Bool) (m : BitVec 31) : (withSign neg m).extractLsb' 0 31 = m :=
  BitVec.extractLsb'_append_eq_right

theorem isInf_withSign (neg : Bool) : isInf (withSign neg 0x7F800000) = true := by
  cases neg <;> decide

theorem isZero_withSign (neg : Bool) : isZero (withSign neg 0) = true := by
  cases neg <;> decide

/-! ## The product -/

theorem fmul32_of_invalid (h : (isNaN a || isNaN b || (isInf a && isZero b) || (isZero a && isInf b)) = true) :
    isNaN (fmul32 a b) = true := by
  rw [fmul32, if_pos h]
  exact isNaN_toNaN _

theorem fmul32_of_inf (ha : isNaN a = false) (hb : isNaN b = false)
    (h : isInf a = true ∧ isZero b = false ∨ isInf b = true ∧ isZero a = false) :
    fmul32 a b = withSign (signBit a ^^ signBit b) 0x7F800000 := by
  rcases h with ⟨hinf, hzero⟩ | ⟨hinf, hzero⟩
  · simp [fmul32, ha, hb, hinf, hzero, not_isZero_of_isInf hinf]
  · simp [fmul32, ha, hb, hinf, hzero, not_isZero_of_isInf hinf]

theorem fmul32_of_finite (ha : isFinite a = true) (hb : isFinite b = true) :
    fmul32 a b = withSign (signBit a ^^ signBit b) (roundMagnitude (magnitude a * magnitude b)) := by
  simp [fmul32, not_isNaN_of_finite ha, not_isNaN_of_finite hb, not_isInf_of_finite ha, not_isInf_of_finite hb]

theorem magnitude_of_isZero (h : isZero v = true) : magnitude v = 0 := by
  obtain ⟨hexp, hfrac⟩ : expField v = 0 ∧ fracField v = 0 := by simpa [isZero] using h
  rw [magnitude, if_pos hexp, hfrac]
  rfl

theorem roundMagnitude_zero : roundMagnitude 0 = 0 := by
  decide

theorem fmul32_of_zero (ha : isFinite a = true) (hb : isFinite b = true) (h : isZero a = true ∨ isZero b = true) :
    fmul32 a b = withSign (signBit a ^^ signBit b) 0 := by
  have hproduct : magnitude a * magnitude b = 0 :=
    Nat.mul_eq_zero.2 (h.imp magnitude_of_isZero magnitude_of_isZero)
  rw [fmul32_of_finite ha hb, hproduct, roundMagnitude_zero]

/-- Settles O56: each clause is the branch of `fmul32` that its operands take. -/
theorem fmulSpecialOperands : Obligations.FmulSpecialOperands := by
  intro a b
  refine ⟨fun h => fmul32_of_invalid ?_, fun h => fmul32_of_invalid ?_, fun h => ?inf, fun h => ?zero⟩
  · rcases h with h | h <;> simp [h]
  · rcases h with ⟨h, h'⟩ | ⟨h, h'⟩ <;> simp [h, h']
  case inf =>
    have hfmul : fmul32 a b = withSign (signBit a ^^ signBit b) 0x7F800000 := by
      rcases h with ⟨hinf, hnan, hzero⟩ | ⟨hinf, hnan, hzero⟩
      · exact fmul32_of_inf (not_isNaN_of_isInf hinf) hnan (.inl ⟨hinf, hzero⟩)
      · exact fmul32_of_inf hnan (not_isNaN_of_isInf hinf) (.inr ⟨hinf, hzero⟩)
    rw [hfmul]
    exact ⟨isInf_withSign _, signBit_withSign _ _⟩
  case zero =>
    have hfmul : fmul32 a b = withSign (signBit a ^^ signBit b) 0 := by
      rcases h with ⟨hzero, hfinite⟩ | ⟨hzero, hfinite⟩
      · exact fmul32_of_zero (finite_of_isZero hzero) hfinite (.inl hzero)
      · exact fmul32_of_zero hfinite (finite_of_isZero hzero) (.inr hzero)
    rw [hfmul]
    exact ⟨isZero_withSign _, signBit_withSign _ _⟩

/-! ## The quaternion composer (R264) -/

/-- Half of a zero heading is that zero. -/
theorem fmul32_zero_half (hz : isZero v = true) : fmul32 v 0x3F000000 = withSign (signBit v) 0 := by
  rw [fmul32_of_zero (finite_of_isZero hz) (by decide) (.inl hz)]
  exact congrArg (withSign · 0) (Bool.xor_false _)

theorem composeOrient_of_isZero (hz : isZero v = true) :
    composeOrient v = ⟨0x3F800000, 0x00000000, 0x00000000, withSign (signBit v) 0⟩ := by
  have hhalf := isZero_withSign (signBit v)
  rw [composeOrient, fmul32_zero_half hz, cos32_of_isZero hhalf, sin32_of_isZero hhalf]

/-- Half of a heading that is not finite is not finite. -/
theorem not_finite_half (h : isFinite v = false) : isFinite (fmul32 v 0x3F000000) = false := by
  cases hnan : isNaN v with
  | true => exact not_finite_of_isNaN (fmul32_of_invalid (by simp [hnan]))
  | false =>
    have hinf : isInf v = true := by rw [isInf_eq_not_isNaN h, hnan, Bool.not_false]
    rw [fmul32_of_inf hnan (by decide) (.inl ⟨hinf, by decide⟩)]
    exact not_finite_of_isInf (isInf_withSign _)

/-- Settles O58: the half heading is a zero or not finite with the heading. -/
theorem orientationCornerCases : Obligations.OrientationCornerCases := by
  refine ⟨composeOrient_of_isZero (by decide), composeOrient_of_isZero (by decide), fun h => ⟨rfl, rfl, fun hfinite => ?_⟩⟩
  have hhalf := not_finite_half hfinite
  exact ⟨isNaN_cos32 hhalf, isNaN_sin32 hhalf⟩

end Sys2Proof
end

section
/-! SUPPORT. 43_telemetry.md R260: rounding to nearest, ties to even, in whole units of 2^-298. The two multiples of the unit of
rounding that enclose a magnitude are neighbours among the binary32 magnitudes, and the rounded one is the nearer of the two. -/

namespace Sys2Proof

/-! ## Division -/

/-- The nearer of the two multiples of `d` that enclose `n`; the one with the even quotient in a tie. -/
theorem divRoundEven_cases (n d : Nat) :
    (divRoundEven n d = n / d ∧ (2 * (n % d) < d ∨ 2 * (n % d) = d ∧ n / d % 2 = 0)) ∨
      (divRoundEven n d = n / d + 1 ∧ (d < 2 * (n % d) ∨ 2 * (n % d) = d ∧ n / d % 2 = 1)) := by
  unfold divRoundEven
  split
  · next h => exact .inl ⟨rfl, h⟩
  · next h => exact .inr ⟨rfl, by omega⟩

/-! ## The unit of rounding -/

/-- What the last place of the rounded magnitude is worth. -/
def roundUnit (n : Nat) : Nat := 2 ^ (148 + roundExponent n)

/-- The rounded magnitude in units of its last place. -/
def significand (n : Nat) : Nat := divRoundEven n (roundUnit n)

/-- Exponent and fraction of the rounded magnitude, as one number, before what does not fit becomes infinity. -/
def roundNumber (n : Nat) : Nat := (roundExponent n - 1) * 2 ^ 23 + significand n

theorem toNat_roundMagnitude (n : Nat) : (roundMagnitude n).toNat = min (255 * 2 ^ 23) (roundNumber n) := by
  have hlt : min (255 * 2 ^ 23) (roundNumber n) < 2 ^ 31 := by omega
  rw [roundMagnitude, Nat.shiftLeft_eq, Nat.one_shiftLeft, BitVec.toNat_ofNat]
  exact Nat.mod_eq_of_lt hlt

theorem roundUnit_pos (n : Nat) : 0 < roundUnit n := Nat.two_pow_pos _

theorem one_le_roundExponent (n : Nat) : 1 ≤ roundExponent n := Nat.le_max_left _ _

/-- The quotient has at most 24 bits. -/
theorem quotient_lt (n : Nat) : n / roundUnit n < 2 ^ 24 := by
  rw [Nat.div_lt_iff_lt_mul (roundUnit_pos n), roundUnit, ← pow_add]
  calc n
    _ < 2 ^ (n.log2 + 1) := Nat.lt_log2_self
    _ ≤ 2 ^ (24 + (148 + roundExponent n)) := Nat.pow_le_pow_right (by decide) (by unfold roundExponent; omega)

/-- Above the subnormals it has all 24. -/
theorem le_quotient {n : Nat} (h : 1 < roundExponent n) : 2 ^ 23 ≤ n / roundUnit n := by
  have hlog : roundExponent n = n.log2 - 171 := by unfold roundExponent at h ⊢; omega
  have hn : n ≠ 0 := by
    rintro rfl
    simp [roundExponent] at h
  have hpow : 23 + (148 + roundExponent n) = n.log2 := by omega
  rw [Nat.le_div_iff_mul_le (roundUnit_pos n), roundUnit, ← pow_add, hpow]
  exact Nat.log2_self_le hn

theorem quotient_le_significand (n : Nat) : n / roundUnit n ≤ significand n ∧ significand n ≤ n / roundUnit n + 1 := by
  rcases divRoundEven_cases n (roundUnit n) with ⟨h, -⟩ | ⟨h, -⟩ <;> rw [significand, h] <;> omega

/-! ## Magnitudes -/

/-- The magnitude, in units of 2^-149, of the pattern whose exponent and fraction are `m` as one number. -/
def magnitudeOf (m : Nat) : Nat :=
  if m / 2 ^ 23 = 0 then m % 2 ^ 23 else (2 ^ 23 + m % 2 ^ 23) * 2 ^ (m / 2 ^ 23 - 1)

theorem toNat_expField (v : Word) : (expField v).toNat = (v.extractLsb' 0 31).toNat / 2 ^ 23 := by
  have hfrac := (v.extractLsb' 0 23).isLt
  rw [toNat_extractLsb'_31, expField]
  omega

theorem toNat_fracField (v : Word) : (fracField v).toNat = (v.extractLsb' 0 31).toNat % 2 ^ 23 := by
  have hfrac := (v.extractLsb' 0 23).isLt
  rw [toNat_extractLsb'_31, fracField]
  omega

theorem magnitude_eq (v : Word) : magnitude v = magnitudeOf (v.extractLsb' 0 31).toNat := by
  have hexp : expField v = 0 ↔ (v.extractLsb' 0 31).toNat / 2 ^ 23 = 0 := by
    rw [← toNat_expField, ← BitVec.toNat_inj]
    rfl
  rw [magnitude, magnitudeOf, ← toNat_fracField, ← toNat_expField, Nat.shiftLeft_eq]
  simp only [hexp, toNat_expField]

/-- A carry out of the fraction raises the exponent, and the fraction is then 0. -/
theorem magnitudeOf_add {q d : Nat} (hq : q = 0 ∨ 2 ^ 23 ≤ d) (hd : d ≤ 2 ^ 24) : magnitudeOf (q * 2 ^ 23 + d) = d * 2 ^ q := by
  rcases Nat.lt_or_ge d (2 ^ 23) with hlow | hlow
  · obtain rfl : q = 0 := by omega
    rw [magnitudeOf, if_pos (by omega)]
    omega
  · rcases Nat.lt_or_ge d (2 ^ 24) with hhigh | hhigh
    · have hexp : (q * 2 ^ 23 + d) / 2 ^ 23 = q + 1 := by omega
      have hfrac : 2 ^ 23 + (q * 2 ^ 23 + d) % 2 ^ 23 = d := by omega
      rw [magnitudeOf, hexp, hfrac, if_neg (Nat.succ_ne_zero q), Nat.add_sub_cancel]
    · obtain rfl : d = 2 ^ 24 := by omega
      have hexp : (q * 2 ^ 23 + 2 ^ 24) / 2 ^ 23 = q + 2 := by omega
      have hfrac : 2 ^ 23 + (q * 2 ^ 23 + 2 ^ 24) % 2 ^ 23 = 2 ^ 23 := by omega
      rw [magnitudeOf, hexp, hfrac, if_neg (Nat.succ_ne_zero _)]
      simp only [← pow_add]
      exact congrArg (2 ^ ·) (by omega)

theorem roundUnit_eq (n : Nat) : roundUnit n = 2 ^ (roundExponent n - 1) * 2 ^ 149 := by
  have hq := one_le_roundExponent n
  rw [roundUnit, ← pow_add]
  exact congrArg (2 ^ ·) (by omega)

/-- The rounded number stands for the significand. -/
theorem magnitudeOf_roundNumber (n : Nat) : magnitudeOf (roundNumber n) * 2 ^ 149 = significand n * roundUnit n := by
  have hlt := quotient_lt n
  have hq := one_le_roundExponent n
  obtain ⟨hle, hle'⟩ := quotient_le_significand n
  have hnormal : roundExponent n - 1 = 0 ∨ 2 ^ 23 ≤ significand n := by
    rcases hq.eq_or_lt with h | h
    · exact .inl (by omega)
    · exact .inr ((le_quotient h).trans hle)
  rw [roundNumber, magnitudeOf_add hnormal (by omega), roundUnit_eq, Nat.mul_assoc]

/-- Every binary32 magnitude is a multiple of the unit of rounding, or below the binade of `n`. -/
theorem magnitudeOf_cases (n m : Nat) :
    roundUnit n ∣ magnitudeOf m * 2 ^ 149 ∨ (1 < roundExponent n ∧ magnitudeOf m * 2 ^ 149 < 2 ^ 23 * roundUnit n) := by
  have hq := one_le_roundExponent n
  have hfrac : m % 2 ^ 23 < 2 ^ 23 := Nat.mod_lt _ (by decide)
  rw [roundUnit_eq, ← Nat.mul_assoc, Nat.mul_lt_mul_right (by decide)]
  by_cases hexp : m / 2 ^ 23 + 1 ≤ roundExponent n ∧ 1 < roundExponent n
  · obtain ⟨hle, hnormal⟩ := hexp
    refine .inr ⟨hnormal, ?_⟩
    rw [magnitudeOf]
    split
    · calc m % 2 ^ 23
        _ < 2 ^ 23 := hfrac
        _ ≤ 2 ^ 23 * 2 ^ (roundExponent n - 1) := Nat.le_mul_of_pos_right _ (by positivity)
    · calc (2 ^ 23 + m % 2 ^ 23) * 2 ^ (m / 2 ^ 23 - 1)
        _ < 2 ^ 24 * 2 ^ (m / 2 ^ 23 - 1) := Nat.mul_lt_mul_of_pos_right (by omega) (by positivity)
        _ = 2 ^ 23 * 2 ^ (m / 2 ^ 23) := by
          simp only [← pow_add]
          exact congrArg (2 ^ ·) (by omega)
        _ ≤ 2 ^ 23 * 2 ^ (roundExponent n - 1) := Nat.mul_le_mul_left _ (Nat.pow_le_pow_right (by decide) (by omega))
  · refine .inl (Nat.mul_dvd_mul_right ?_ _)
    rw [magnitudeOf]
    split
    · have hone : roundExponent n - 1 = 0 := by omega
      rw [hone]
      exact one_dvd _
    · exact Dvd.dvd.mul_left (Nat.pow_dvd_pow 2 (by omega)) _

/-- So none lies strictly between the two multiples that enclose `n`. -/
theorem magnitudeOf_outside (n m : Nat) :
    magnitudeOf m * 2 ^ 149 ≤ n / roundUnit n * roundUnit n ∨ (n / roundUnit n + 1) * roundUnit n ≤ magnitudeOf m * 2 ^ 149 := by
  rcases magnitudeOf_cases n m with ⟨k, hk⟩ | ⟨hq, hlt⟩
  · rw [hk, Nat.mul_comm (roundUnit n) k]
    rcases Nat.lt_or_ge (n / roundUnit n) k with h | h
    · exact .inr (Nat.mul_le_mul_right _ h)
    · exact .inl (Nat.mul_le_mul_right _ h)
  · exact .inl (hlt.le.trans (Nat.mul_le_mul_right _ (le_quotient hq)))

/-! ## The nearest magnitude -/

/-- `x` is at least as near to `n` as `g` is, and even where another `g` is as near; `even` says what evenness is. -/
def Nearer (x n g : ℤ) (even : Prop) : Prop := |x - n| ≤ |g - n| ∧ (|x - n| = |g - n| → g ≠ x → even)

theorem nearer_neg {x n g : ℤ} {even : Prop} : Nearer (-x) (-n) (-g) even ↔ Nearer x n g even := by
  rw [Nearer, Nearer, ← abs_neg (x - n), ← abs_neg (g - n), neg_sub', neg_sub', ne_eq, neg_inj]

/-- The lower of two neighbours, `w` apart, is nearer than anything outside of them where `n` is in the lower half. -/
theorem nearer_low {x n g w : ℤ} {even : Prop} (hx : x ≤ n) (hnear : 2 * (n - x) < w ∨ 2 * (n - x) = w ∧ even)
    (hg : g ≤ x ∨ x + w ≤ g) : Nearer x n g even := by
  rw [Nearer, abs_of_nonpos (by omega : x - n ≤ 0)]
  rcases hg with hg | hg
  · rw [abs_of_nonpos (by omega : g - n ≤ 0)]
    exact ⟨by omega, fun htie hne => absurd (by omega) hne⟩
  · rw [abs_of_nonneg (by omega : 0 ≤ g - n)]
    refine ⟨by omega, fun htie _ => ?_⟩
    rcases hnear with hlt | ⟨-, heven⟩
    · omega
    · exact heven

/-- And the higher one where `n` is in the upper half. -/
theorem nearer_high {x n g w : ℤ} {even : Prop} (hx : n ≤ x) (hnear : 2 * (x - n) < w ∨ 2 * (x - n) = w ∧ even)
    (hg : g ≤ x - w ∨ x ≤ g) : Nearer x n g even :=
  nearer_neg.1 (nearer_low (w := w) (by omega) (by simpa [sub_neg_eq_add, neg_add_eq_sub] using hnear) (by omega))

/-- The rounded magnitude is nearer to `n` than any that does not lie strictly between the two multiples that enclose `n`. -/
theorem nearer_significand (n : Nat) {g : Nat}
    (hg : g ≤ n / roundUnit n * roundUnit n ∨ (n / roundUnit n + 1) * roundUnit n ≤ g) :
    Nearer (significand n * roundUnit n : ℕ) n g (significand n % 2 = 0) := by
  have hsplit := Nat.div_add_mod' n (roundUnit n)
  have hrest := Nat.mod_lt n (roundUnit_pos n)
  rw [Nat.succ_mul] at hg
  rcases divRoundEven_cases n (roundUnit n) with ⟨hd, hnear⟩ | ⟨hd, hnear⟩
  · rw [significand, hd]
    exact nearer_low (w := roundUnit n) (by omega) (by omega) (by omega)
  · rw [significand, hd, Nat.succ_mul]
    exact nearer_high (w := roundUnit n) (by omega) (by omega) (by omega)

/-! ## What does not fit -/

/-- The largest finite magnitude and half a unit of its last place, in units of 2^-298: (2^128 - 2^103) of them. -/
def overflowBound : Nat := (2 ^ 25 - 1) * 2 ^ 401

/-- In the last binade the number overflows where the significand carries out. -/
theorem roundNumber_lt_of_last {n : Nat} (h : roundExponent n = 254) : roundNumber n < 255 * 2 ^ 23 ↔ n < overflowBound := by
  have hunit : roundUnit n = 2 * 2 ^ 401 := by rw [roundUnit, h, ← Nat.pow_succ']
  have hsplit := Nat.div_add_mod' n (roundUnit n)
  have hlt := quotient_lt n
  have hrest := Nat.mod_lt n (roundUnit_pos n)
  have hcases := divRoundEven_cases n (roundUnit n)
  rw [roundNumber, h, significand, overflowBound]
  rw [hunit] at hsplit hlt hrest hcases ⊢
  generalize (2 : Nat) ^ 401 = p at *
  obtain hlast | hbelow : n / (2 * p) = 2 ^ 24 - 1 ∨ n / (2 * p) + 1 ≤ 2 ^ 24 - 1 := by omega
  · simp only [hlast] at hsplit hcases
    omega
  · have hmul : (n / (2 * p) + 1) * (2 * p) ≤ (2 ^ 24 - 1) * (2 * p) := Nat.mul_le_mul_right _ hbelow
    rw [Nat.succ_mul] at hmul
    omega

theorem roundNumber_lt_iff (n : Nat) : roundNumber n < 255 * 2 ^ 23 ↔ n < overflowBound := by
  have hq := one_le_roundExponent n
  have hlt := quotient_lt n
  obtain ⟨hle, hle'⟩ := quotient_le_significand n
  rcases Nat.lt_trichotomy (roundExponent n) 254 with h | h | h
  · have hn : n < overflowBound := by
      have hquot : n < 2 ^ 24 * roundUnit n := (Nat.div_lt_iff_lt_mul (roundUnit_pos n)).1 hlt
      have hunit : roundUnit n ≤ 2 ^ 401 := by
        have hexp : 148 + roundExponent n ≤ 401 := by omega
        exact pow_le_pow_right₀ one_le_two hexp
      rw [overflowBound]
      generalize (2 : Nat) ^ 401 = p at hunit ⊢
      omega
    refine iff_of_true ?_ hn
    rw [roundNumber]
    omega
  · exact roundNumber_lt_of_last h
  · have hnormal := le_quotient (by omega : 1 < roundExponent n)
    have hn : overflowBound ≤ n := by
      have hquot : 2 ^ 23 * roundUnit n ≤ n := (Nat.le_div_iff_mul_le (roundUnit_pos n)).1 hnormal
      have hunit : 2 ^ 2 * 2 ^ 401 ≤ roundUnit n := by
        rw [← pow_add]
        exact pow_le_pow_right₀ one_le_two (by omega)
      rw [overflowBound]
      generalize (2 : Nat) ^ 401 = p at hunit ⊢
      omega
    refine iff_of_false (fun hlt' => ?_) hn.not_gt
    rw [roundNumber] at hlt'
    omega

/-! ## The rounded pattern -/

/-- The pattern `fmul32` makes of a sign and a magnitude in units of 2^-298. -/
def rounded (neg : Bool) (n : Nat) : Word := withSign neg (roundMagnitude n)

theorem toNat_rounded (neg : Bool) (n : Nat) : ((rounded neg n).extractLsb' 0 31).toNat = min (255 * 2 ^ 23) (roundNumber n) := by
  rw [rounded, extractLsb'_withSign, toNat_roundMagnitude]

theorem isFinite_iff_toNat (v : Word) : isFinite v = true ↔ (v.extractLsb' 0 31).toNat < 255 * 2 ^ 23 := by
  have hlt := (v.extractLsb' 0 31).isLt
  have hexp : isFinite v = true ↔ (expField v).toNat ≠ 255 := by
    rw [isFinite_iff, ne_eq, ← BitVec.toNat_inj]
    rfl
  rw [hexp, toNat_expField]
  omega

theorem isFinite_rounded_iff (neg : Bool) (n : Nat) : isFinite (rounded neg n) = true ↔ n < overflowBound := by
  rw [isFinite_iff_toNat, toNat_rounded, ← roundNumber_lt_iff]
  omega

theorem rounded_of_overflow (neg : Bool) {n : Nat} (h : overflowBound ≤ n) : rounded neg n = withSign neg 0x7F800000 := by
  have hlarge : 255 * 2 ^ 23 ≤ roundNumber n := by
    rw [← not_lt, roundNumber_lt_iff]
    exact h.not_gt
  refine congrArg (withSign neg) (BitVec.eq_of_toNat_eq ?_)
  rw [toNat_roundMagnitude, Nat.min_eq_left hlarge]
  rfl

theorem toNat_rounded_of_finite {neg : Bool} {n : Nat} (h : isFinite (rounded neg n) = true) :
    ((rounded neg n).extractLsb' 0 31).toNat = roundNumber n := by
  have hlt := (isFinite_iff_toNat _).1 h
  rw [toNat_rounded] at hlt ⊢
  omega

theorem magnitude_rounded {neg : Bool} {n : Nat} (h : isFinite (rounded neg n) = true) :
    magnitude (rounded neg n) * 2 ^ 149 = significand n * roundUnit n := by
  rw [magnitude_eq, toNat_rounded_of_finite h, magnitudeOf_roundNumber]

/-- The last bit of the pattern is that of the significand. -/
theorem getLsbD_rounded {neg : Bool} {n : Nat} (h : isFinite (rounded neg n) = true) (heven : significand n % 2 = 0) :
    (rounded neg n).getLsbD 0 = false := by
  have hbit : (rounded neg n).getLsbD 0 = ((rounded neg n).extractLsb' 0 31).getLsbD 0 := by
    rw [BitVec.getLsbD_extractLsb']
    simp
  have hnum : roundNumber n % 2 = 0 := by
    rw [roundNumber]
    omega
  rw [hbit, BitVec.getLsbD, toNat_rounded_of_finite h, Nat.testBit_zero, hnum]
  rfl

/-! ## Values -/

/-- The factor that a sign stands for. -/
def signFactor (neg : Bool) : ℤ := if neg then -1 else 1

/-- The value of a finite pattern in units of 2^-149. -/
def signedMagnitude (v : Word) : ℤ := signFactor (signBit v) * magnitude v

theorem value_eq (v : Word) : Claims.value v = signedMagnitude v * 2 ^ (-149 : ℤ) := by
  have hsign : (if v.getLsbD 31 then -1 else 1 : ℚ) = signFactor (signBit v) := by
    rw [signFactor, signBit]
    split <;> simp
  rw [Claims.value, hsign, signedMagnitude, Int.cast_mul, mul_assoc, Int.cast_natCast, magnitude, expField, fracField]
  split
  · rfl
  · next hexp =>
    have hpos : v.extractLsb' 23 8 ≠ 0 → 1 ≤ (v.extractLsb' 23 8).toNat := fun h =>
      Nat.one_le_iff_ne_zero.2 fun h0 => h (BitVec.eq_of_toNat_eq h0)
    have hpow : (2 : ℚ) ^ (((v.extractLsb' 23 8).toNat : ℤ) - 150) =
        ((2 ^ ((v.extractLsb' 23 8).toNat - 1) : ℕ) : ℚ) * 2 ^ (-149 : ℤ) := by
      rw [Nat.cast_pow, Nat.cast_ofNat, ← zpow_natCast, ← zpow_add₀ two_ne_zero, Nat.cast_sub (hpos hexp)]
      exact congrArg _ (by omega)
    rw [hpow, Nat.shiftLeft_eq, Nat.cast_mul, mul_assoc]

theorem signFactor_xor (p q : Bool) : signFactor (p ^^ q) = signFactor p * signFactor q := by
  cases p <;> cases q <;> rfl

theorem signedMagnitude_mul (a b : Word) :
    signedMagnitude a * signedMagnitude b = signFactor (signBit a ^^ signBit b) * (magnitude a * magnitude b : ℕ) := by
  rw [signedMagnitude, signedMagnitude, signFactor_xor]
  push_cast
  ring

theorem value_eq_scaled (v : Word) : Claims.value v = (signedMagnitude v * 2 ^ 149 : ℤ) * 2 ^ (-298 : ℤ) := by
  have hpow : (2 : ℚ) ^ (-149 : ℤ) = 2 ^ 149 * 2 ^ (-298 : ℤ) := by
    rw [← zpow_natCast, ← zpow_add₀ two_ne_zero]
    rfl
  rw [value_eq, hpow]
  generalize (2 : ℚ) ^ (-298 : ℤ) = u
  push_cast
  ring

theorem value_mul (a b : Word) :
    Claims.value a * Claims.value b = (signedMagnitude a * signedMagnitude b : ℤ) * 2 ^ (-298 : ℤ) := by
  have hpow : (2 : ℚ) ^ (-298 : ℤ) = 2 ^ (-149 : ℤ) * 2 ^ (-149 : ℤ) := by
    rw [← zpow_add₀ two_ne_zero]
    rfl
  rw [value_eq, value_eq, hpow]
  push_cast
  ring

theorem abs_mul_unit (z : ℤ) : |(z : ℚ) * 2 ^ (-298 : ℤ)| = (|z| : ℤ) * 2 ^ (-298 : ℤ) := by
  rw [abs_mul, abs_of_pos (zpow_pos two_pos (-298) : (0 : ℚ) < 2 ^ (-298 : ℤ)), Int.cast_abs]

/-- The distance of a value from an exact product, in units of 2^-298. -/
theorem distance_eq (v a b : Word) :
    |Claims.value v - Claims.value a * Claims.value b| =
      (|signedMagnitude v * 2 ^ 149 - signedMagnitude a * signedMagnitude b| : ℤ) * 2 ^ (-298 : ℤ) := by
  rw [value_eq_scaled, value_mul, ← sub_mul, ← Int.cast_sub, abs_mul_unit]

theorem abs_product (a b : Word) :
    |Claims.value a * Claims.value b| = (magnitude a * magnitude b : ℕ) * 2 ^ (-298 : ℤ) := by
  have habs : |signFactor (signBit a ^^ signBit b)| = 1 := by
    cases signBit a ^^ signBit b <;> rfl
  rw [value_mul, abs_mul_unit, signedMagnitude_mul, abs_mul, habs, one_mul, Nat.abs_cast, Int.cast_natCast]

/-- Nearer in whole units is nearer in value. -/
theorem Nearer.value {f a b c : Word} {even : Prop}
    (h : Nearer (signedMagnitude f * 2 ^ 149) (signedMagnitude a * signedMagnitude b) (signedMagnitude c * 2 ^ 149) even) :
    |Claims.value f - Claims.value a * Claims.value b| ≤ |Claims.value c - Claims.value a * Claims.value b| ∧
      (|Claims.value f - Claims.value a * Claims.value b| = |Claims.value c - Claims.value a * Claims.value b| →
        Claims.value c ≠ Claims.value f → even) := by
  obtain ⟨hle, htie⟩ := h
  have hunit : (0 : ℚ) < 2 ^ (-298 : ℤ) := zpow_pos two_pos _
  rw [distance_eq, distance_eq]
  refine ⟨mul_le_mul_of_nonneg_right (Int.cast_le.2 hle) hunit.le, fun heq hne => htie ?_ fun hsame => hne ?_⟩
  · exact Int.cast_injective (mul_right_cancel₀ hunit.ne' heq)
  · rw [value_eq_scaled, value_eq_scaled, hsame]

/-- A magnitude of the other sign is only farther away. -/
theorem Nearer.opposite {x n g : ℕ} {even : Prop} (h : Nearer x n g even) (hzero : n = 0 → x = 0) : Nearer x n (-g) even := by
  obtain ⟨hle, htie⟩ := h
  have hfar : |(g : ℤ) - n| ≤ g + n := abs_le.2 ⟨by omega, by omega⟩
  rw [Nearer, abs_of_nonpos (by omega : -(g : ℤ) - n ≤ 0)]
  refine ⟨by omega, fun heq hne => htie (by omega) fun hsame => ?_⟩
  rcases abs_cases ((x : ℤ) - n) with ⟨habs, hpos⟩ | ⟨habs, hneg⟩ <;> omega

theorem Nearer.signed {x n g : ℕ} {even : Prop} (h : Nearer x n g even) (hzero : n = 0 → x = 0) (p q : Bool) :
    Nearer (signFactor p * x) (signFactor p * n) (signFactor q * g) even := by
  have hopposite := h.opposite hzero
  cases p <;> cases q <;> simp only [signFactor, if_true, if_false, Bool.false_eq_true, one_mul, neg_one_mul]
  · exact h
  · exact hopposite
  · exact nearer_neg.1 (by simpa only [neg_neg] using hopposite)
  · exact nearer_neg.2 h

/-! ## `fmul32` of finite operands -/

theorem significand_zero : significand 0 = 0 := by
  simp [significand, divRoundEven, roundUnit_pos]

theorem signedMagnitude_mul_unit (v : Word) :
    signedMagnitude v * 2 ^ 149 = signFactor (signBit v) * (magnitude v * 2 ^ 149 : ℕ) := by
  rw [signedMagnitude, mul_assoc]
  push_cast
  rfl

/-- The rounded pattern is nearer to the product than any finite one. -/
theorem nearer_rounded {neg : Bool} {n : Nat} (h : isFinite (rounded neg n) = true) (c : Word) :
    Nearer (signedMagnitude (rounded neg n) * 2 ^ 149) (signFactor neg * n) (signedMagnitude c * 2 ^ 149)
      ((rounded neg n).getLsbD 0 = false) := by
  have hnear := nearer_significand n (magnitude_eq c ▸ magnitudeOf_outside n (c.extractLsb' 0 31).toNat)
  have hzero : n = 0 → significand n * roundUnit n = 0 := by
    rintro rfl
    rw [significand_zero, Nat.zero_mul]
  obtain ⟨hle, htie⟩ := hnear.signed hzero neg (signBit c)
  rw [signedMagnitude_mul_unit, signedMagnitude_mul_unit, magnitude_rounded h]
  have hsign : signBit (rounded neg n) = neg := signBit_withSign _ _
  rw [hsign]
  exact ⟨hle, fun heq hne => getLsbD_rounded h (htie heq hne)⟩

/-- The bound of R260 in units of 2^-298. -/
theorem overflowBound_eq : (overflowBound : ℚ) * 2 ^ (-298 : ℤ) = 2 ^ 128 - 2 ^ 103 := by
  have hpow : (2 : ℚ) ^ 401 * 2 ^ (-298 : ℤ) = 2 ^ 103 := by
    rw [← zpow_natCast, ← zpow_add₀ two_ne_zero]
    rfl
  rw [overflowBound, Nat.cast_mul, Nat.cast_pow, Nat.cast_ofNat, mul_assoc, hpow]
  norm_num

/-- Settles O55: the product in units of 2^-298 is exact, and `fmul32` rounds it to the nearest magnitude. -/
theorem fmulRoundsToNearestEven : Obligations.FmulRoundsToNearestEven := by
  intro a b ha hb
  have hfmul : fmul32 a b = rounded (signBit a ^^ signBit b) (magnitude a * magnitude b) := fmul32_of_finite ha hb
  rw [hfmul]
  have hoverflow : isFinite (rounded (signBit a ^^ signBit b) (magnitude a * magnitude b)) = false ↔
      overflowBound ≤ magnitude a * magnitude b := by
    rw [← not_lt, ← isFinite_rounded_iff (signBit a ^^ signBit b), Bool.not_eq_true]
  refine ⟨signBit_withSign _ _, fun hfinite c _ => ?_, ?_, fun hinf => ?_⟩
  · exact Nearer.value (signedMagnitude_mul a b ▸ nearer_rounded hfinite c)
  · rw [hoverflow, abs_product, ← overflowBound_eq, mul_le_mul_iff_left₀ (zpow_pos two_pos _), Nat.cast_le]
  · rw [rounded_of_overflow _ (hoverflow.1 hinf)]
    exact isInf_withSign _

end Sys2Proof
end
